-- ==== Sys2Proof/Word.lean ====
section
/-! DEFINITION. The byte and the 16-bit word of the 6502 core (spec/00_scope.md R7). Every register and every memory
byte is a `Byte`; PC and every address is a `Word`. Arithmetic on them wraps mod 2^8 and mod 2^16 (R8, R107). -/

namespace Sys2Proof

/-- 8 bits: A, X, Y, SP, a memory byte, an opcode (R5). -/
abbrev Byte := BitVec 8

/-- 16 bits: PC and every address (R5). -/
abbrev Word := BitVec 16

end Sys2Proof
end

