-- ==== Sys2Proof/Config.lean ====
section
/-! DEFINITION. The parameters that spec/00_scope.md R6 says a model takes as arguments, and the one free value
(MAGIC). The parameters are plain data; a machine state carries them (log 4), so a statement about every state is a
statement about every setting. -/

namespace Sys2Proof

/-- `STACK_CONVENTION` (R42, R43, D7): decrement then write, or write then decrement. -/
inductive StackConvention where
  /-- the source's order: push decrements SP then writes; pull reads then increments SP -/
  | doc
  /-- the chip's order: push writes then decrements SP; pull increments SP then reads -/
  | nmos
  deriving DecidableEq, Repr

/-- `DECIMAL_MODE` (R101, R103, R105, D6). -/
inductive DecimalMode where
  /-- D = 1 selects the NMOS decimal arithmetic -/
  | nmos
  /-- arithmetic is binary whatever D is -/
  | none
  deriving DecidableEq, Repr

/-- `UNDOC_POLICY` (R170, D10). -/
inductive UndocPolicy where
  /-- undocumented opcodes execute as 48_undocumented.md gives them -/
  | nmos
  /-- undocumented opcodes outside the halt set are refused -/
  | refuse
  deriving DecidableEq, Repr

/-- `BRANCH_PAGE_REF` (R94, D9): the address whose page a taken branch's target is compared with. -/
inductive BranchPageRef where
  /-- the address of the instruction after the branch -/
  | nextPc
  /-- the address of the branch's opcode byte -/
  | opcodeAddr
  deriving DecidableEq, Repr

/-- `INTERRUPT_INPUTS` (R26, D11). -/
inductive InterruptInputs where
  /-- IRQ and NMI always read inactive -/
  | tiedInactive
  /-- IRQ and NMI are levels the host sets between steps -/
  | driven
  deriving DecidableEq, Repr

/-- The parameters of R6 that rules of the core read. -/
structure Params where
  /-- `HALT_OPCODES`, a set of opcode bytes (D1; log 18) -/
  haltOpcodes : List Byte
  stackConvention : StackConvention
  decimalMode : DecimalMode
  undocPolicy : UndocPolicy
  branchPageRef : BranchPageRef
  interruptInputs : InterruptInputs
  deriving DecidableEq, Repr

/-- R6's column "default". -/
def Params.default : Params where
  haltOpcodes := [0x02, 0x12, 0x22, 0x32, 0x42, 0x52, 0x62, 0x72, 0x92, 0xB2, 0xD2, 0xF2]
  stackConvention := .doc
  decimalMode := .nmos
  undocPolicy := .nmos
  branchPageRef := .nextPc
  interruptInputs := .tiedInactive

/-- `MAGIC` (R187, R188): the n-th draw of a run is `magic n`. A free value: it has no body, so nothing can be
proved of it and a claim holds for every draw (DESIGN CHOICE of form, log 6). -/
opaque Config.magic : Nat → Byte

/-- An assembled program as the loader takes it (R225): the bytes in order, where they go, and the entry point. -/
structure Program where
  bytes : List Byte
  loadAddress : Word
  entry : Word
  deriving DecidableEq, Repr

end Sys2Proof
end

