-- ==== Sys2Proof/Syntax.lean ====
section
/-! DEFINITION. The instruction set (spec/30_encoding.md R58, R61, R63): the 256 rows of spec/opcode_table.json, in
opcode order, as 222 constructors. A row is a constructor of its own, but for rows that share both mnemonic and
addressing mode: those differ in nothing but the opcode byte, and their one constructor carries it as `op` (log 15).
The other argument is the row's operand: an immediate `i`, a zero-page address or pointer `a`, a relative offset `o`
(one byte each), or a 16-bit operand `w` (R54, R55). The name is the mnemonic, then the mode where the mnemonic has
several. -/

namespace Sys2Proof

inductive Instr where
  | brk                       -- 0x00 BRK Implied
  | oraIndX (a : Byte)        -- 0x01 ORA (Indirect,X)
  | jam (op : Byte)           -- 0x02 0x12 0x22 0x32 0x42 0x52 0x62 0x72 0x92 0xB2 0xD2 0xF2 JAM Implied
  | sloIndX (a : Byte)        -- 0x03 SLO (Indirect,X)
  | nopZp (op : Byte) (a : Byte)-- 0x04 0x44 0x64 NOP Zero Page
  | oraZp (a : Byte)          -- 0x05 ORA Zero Page
  | aslZp (a : Byte)          -- 0x06 ASL Zero Page
  | sloZp (a : Byte)          -- 0x07 SLO Zero Page
  | php                       -- 0x08 PHP Implied
  | oraImm (i : Byte)         -- 0x09 ORA Immediate
  | aslAcc                    -- 0x0A ASL Accumulator
  | anc (op : Byte) (i : Byte)-- 0x0B 0x2B ANC Immediate
  | nopAbs (w : Word)         -- 0x0C NOP Absolute
  | oraAbs (w : Word)         -- 0x0D ORA Absolute
  | aslAbs (w : Word)         -- 0x0E ASL Absolute
  | sloAbs (w : Word)         -- 0x0F SLO Absolute
  | bpl (o : Byte)            -- 0x10 BPL Relative
  | oraIndY (a : Byte)        -- 0x11 ORA (Indirect),Y
  | sloIndY (a : Byte)        -- 0x13 SLO (Indirect),Y
  | nopZpX (op : Byte) (a : Byte)-- 0x14 0x34 0x54 0x74 0xD4 0xF4 NOP Zero Page,X
  | oraZpX (a : Byte)         -- 0x15 ORA Zero Page,X
  | aslZpX (a : Byte)         -- 0x16 ASL Zero Page,X
  | sloZpX (a : Byte)         -- 0x17 SLO Zero Page,X
  | clc                       -- 0x18 CLC Implied
  | oraAbsY (w : Word)        -- 0x19 ORA Absolute,Y
  | nop (op : Byte)           -- 0x1A 0x3A 0x5A 0x7A 0xDA 0xEA 0xFA NOP Implied
  | sloAbsY (w : Word)        -- 0x1B SLO Absolute,Y
  | nopAbsX (op : Byte) (w : Word)-- 0x1C 0x3C 0x5C 0x7C 0xDC 0xFC NOP Absolute,X
  | oraAbsX (w : Word)        -- 0x1D ORA Absolute,X
  | aslAbsX (w : Word)        -- 0x1E ASL Absolute,X
  | sloAbsX (w : Word)        -- 0x1F SLO Absolute,X
  | jsr (w : Word)            -- 0x20 JSR Absolute
  | andIndX (a : Byte)        -- 0x21 AND (Indirect,X)
  | rlaIndX (a : Byte)        -- 0x23 RLA (Indirect,X)
  | bitZp (a : Byte)          -- 0x24 BIT Zero Page
  | andZp (a : Byte)          -- 0x25 AND Zero Page
  | rolZp (a : Byte)          -- 0x26 ROL Zero Page
  | rlaZp (a : Byte)          -- 0x27 RLA Zero Page
  | plp                       -- 0x28 PLP Implied
  | andImm (i : Byte)         -- 0x29 AND Immediate
  | rolAcc                    -- 0x2A ROL Accumulator
  | bitAbs (w : Word)         -- 0x2C BIT Absolute
  | andAbs (w : Word)         -- 0x2D AND Absolute
  | rolAbs (w : Word)         -- 0x2E ROL Absolute
  | rlaAbs (w : Word)         -- 0x2F RLA Absolute
  | bmi (o : Byte)            -- 0x30 BMI Relative
  | andIndY (a : Byte)        -- 0x31 AND (Indirect),Y
  | rlaIndY (a : Byte)        -- 0x33 RLA (Indirect),Y
  | andZpX (a : Byte)         -- 0x35 AND Zero Page,X
  | rolZpX (a : Byte)         -- 0x36 ROL Zero Page,X
  | rlaZpX (a : Byte)         -- 0x37 RLA Zero Page,X
  | sec                       -- 0x38 SEC Implied
  | andAbsY (w : Word)        -- 0x39 AND Absolute,Y
  | rlaAbsY (w : Word)        -- 0x3B RLA Absolute,Y
  | andAbsX (w : Word)        -- 0x3D AND Absolute,X
  | rolAbsX (w : Word)        -- 0x3E ROL Absolute,X
  | rlaAbsX (w : Word)        -- 0x3F RLA Absolute,X
  | rti                       -- 0x40 RTI Implied
  | eorIndX (a : Byte)        -- 0x41 EOR (Indirect,X)
  | sreIndX (a : Byte)        -- 0x43 SRE (Indirect,X)
  | eorZp (a : Byte)          -- 0x45 EOR Zero Page
  | lsrZp (a : Byte)          -- 0x46 LSR Zero Page
  | sreZp (a : Byte)          -- 0x47 SRE Zero Page
  | pha                       -- 0x48 PHA Implied
  | eorImm (i : Byte)         -- 0x49 EOR Immediate
  | lsrAcc                    -- 0x4A LSR Accumulator
  | alr (i : Byte)            -- 0x4B ALR Immediate
  | jmpAbs (w : Word)         -- 0x4C JMP Absolute
  | eorAbs (w : Word)         -- 0x4D EOR Absolute
  | lsrAbs (w : Word)         -- 0x4E LSR Absolute
  | sreAbs (w : Word)         -- 0x4F SRE Absolute
  | bvc (o : Byte)            -- 0x50 BVC Relative
  | eorIndY (a : Byte)        -- 0x51 EOR (Indirect),Y
  | sreIndY (a : Byte)        -- 0x53 SRE (Indirect),Y
  | eorZpX (a : Byte)         -- 0x55 EOR Zero Page,X
  | lsrZpX (a : Byte)         -- 0x56 LSR Zero Page,X
  | sreZpX (a : Byte)         -- 0x57 SRE Zero Page,X
  | cli                       -- 0x58 CLI Implied
  | eorAbsY (w : Word)        -- 0x59 EOR Absolute,Y
  | sreAbsY (w : Word)        -- 0x5B SRE Absolute,Y
  | eorAbsX (w : Word)        -- 0x5D EOR Absolute,X
  | lsrAbsX (w : Word)        -- 0x5E LSR Absolute,X
  | sreAbsX (w : Word)        -- 0x5F SRE Absolute,X
  | rts                       -- 0x60 RTS Implied
  | adcIndX (a : Byte)        -- 0x61 ADC (Indirect,X)
  | rraIndX (a : Byte)        -- 0x63 RRA (Indirect,X)
  | adcZp (a : Byte)          -- 0x65 ADC Zero Page
  | rorZp (a : Byte)          -- 0x66 ROR Zero Page
  | rraZp (a : Byte)          -- 0x67 RRA Zero Page
  | pla                       -- 0x68 PLA Implied
  | adcImm (i : Byte)         -- 0x69 ADC Immediate
  | rorAcc                    -- 0x6A ROR Accumulator
  | arr (i : Byte)            -- 0x6B ARR Immediate
  | jmpInd (w : Word)         -- 0x6C JMP Indirect
  | adcAbs (w : Word)         -- 0x6D ADC Absolute
  | rorAbs (w : Word)         -- 0x6E ROR Absolute
  | rraAbs (w : Word)         -- 0x6F RRA Absolute
  | bvs (o : Byte)            -- 0x70 BVS Relative
  | adcIndY (a : Byte)        -- 0x71 ADC (Indirect),Y
  | rraIndY (a : Byte)        -- 0x73 RRA (Indirect),Y
  | adcZpX (a : Byte)         -- 0x75 ADC Zero Page,X
  | rorZpX (a : Byte)         -- 0x76 ROR Zero Page,X
  | rraZpX (a : Byte)         -- 0x77 RRA Zero Page,X
  | sei                       -- 0x78 SEI Implied
  | adcAbsY (w : Word)        -- 0x79 ADC Absolute,Y
  | rraAbsY (w : Word)        -- 0x7B RRA Absolute,Y
  | adcAbsX (w : Word)        -- 0x7D ADC Absolute,X
  | rorAbsX (w : Word)        -- 0x7E ROR Absolute,X
  | rraAbsX (w : Word)        -- 0x7F RRA Absolute,X
  | nopImm (op : Byte) (i : Byte)-- 0x80 0x82 0x89 0xC2 0xE2 NOP Immediate
  | staIndX (a : Byte)        -- 0x81 STA (Indirect,X)
  | saxIndX (a : Byte)        -- 0x83 SAX (Indirect,X)
  | styZp (a : Byte)          -- 0x84 STY Zero Page
  | staZp (a : Byte)          -- 0x85 STA Zero Page
  | stxZp (a : Byte)          -- 0x86 STX Zero Page
  | saxZp (a : Byte)          -- 0x87 SAX Zero Page
  | dey                       -- 0x88 DEY Implied
  | txa                       -- 0x8A TXA Implied
  | ane (i : Byte)            -- 0x8B ANE Immediate
  | styAbs (w : Word)         -- 0x8C STY Absolute
  | staAbs (w : Word)         -- 0x8D STA Absolute
  | stxAbs (w : Word)         -- 0x8E STX Absolute
  | saxAbs (w : Word)         -- 0x8F SAX Absolute
  | bcc (o : Byte)            -- 0x90 BCC Relative
  | staIndY (a : Byte)        -- 0x91 STA (Indirect),Y
  | shaIndY (a : Byte)        -- 0x93 SHA (Indirect),Y
  | styZpX (a : Byte)         -- 0x94 STY Zero Page,X
  | staZpX (a : Byte)         -- 0x95 STA Zero Page,X
  | stxZpY (a : Byte)         -- 0x96 STX Zero Page,Y
  | saxZpY (a : Byte)         -- 0x97 SAX Zero Page,Y
  | tya                       -- 0x98 TYA Implied
  | staAbsY (w : Word)        -- 0x99 STA Absolute,Y
  | txs                       -- 0x9A TXS Implied
  | tas (w : Word)            -- 0x9B TAS Absolute,Y
  | shy (w : Word)            -- 0x9C SHY Absolute,X
  | staAbsX (w : Word)        -- 0x9D STA Absolute,X
  | shx (w : Word)            -- 0x9E SHX Absolute,Y
  | shaAbsY (w : Word)        -- 0x9F SHA Absolute,Y
  | ldyImm (i : Byte)         -- 0xA0 LDY Immediate
  | ldaIndX (a : Byte)        -- 0xA1 LDA (Indirect,X)
  | ldxImm (i : Byte)         -- 0xA2 LDX Immediate
  | laxIndX (a : Byte)        -- 0xA3 LAX (Indirect,X)
  | ldyZp (a : Byte)          -- 0xA4 LDY Zero Page
  | ldaZp (a : Byte)          -- 0xA5 LDA Zero Page
  | ldxZp (a : Byte)          -- 0xA6 LDX Zero Page
  | laxZp (a : Byte)          -- 0xA7 LAX Zero Page
  | tay                       -- 0xA8 TAY Implied
  | ldaImm (i : Byte)         -- 0xA9 LDA Immediate
  | tax                       -- 0xAA TAX Implied
  | lxa (i : Byte)            -- 0xAB LXA Immediate
  | ldyAbs (w : Word)         -- 0xAC LDY Absolute
  | ldaAbs (w : Word)         -- 0xAD LDA Absolute
  | ldxAbs (w : Word)         -- 0xAE LDX Absolute
  | laxAbs (w : Word)         -- 0xAF LAX Absolute
  | bcs (o : Byte)            -- 0xB0 BCS Relative
  | ldaIndY (a : Byte)        -- 0xB1 LDA (Indirect),Y
  | laxIndY (a : Byte)        -- 0xB3 LAX (Indirect),Y
  | ldyZpX (a : Byte)         -- 0xB4 LDY Zero Page,X
  | ldaZpX (a : Byte)         -- 0xB5 LDA Zero Page,X
  | ldxZpY (a : Byte)         -- 0xB6 LDX Zero Page,Y
  | laxZpY (a : Byte)         -- 0xB7 LAX Zero Page,Y
  | clv                       -- 0xB8 CLV Implied
  | ldaAbsY (w : Word)        -- 0xB9 LDA Absolute,Y
  | tsx                       -- 0xBA TSX Implied
  | las (w : Word)            -- 0xBB LAS Absolute,Y
  | ldyAbsX (w : Word)        -- 0xBC LDY Absolute,X
  | ldaAbsX (w : Word)        -- 0xBD LDA Absolute,X
  | ldxAbsY (w : Word)        -- 0xBE LDX Absolute,Y
  | laxAbsY (w : Word)        -- 0xBF LAX Absolute,Y
  | cpyImm (i : Byte)         -- 0xC0 CPY Immediate
  | cmpIndX (a : Byte)        -- 0xC1 CMP (Indirect,X)
  | dcpIndX (a : Byte)        -- 0xC3 DCP (Indirect,X)
  | cpyZp (a : Byte)          -- 0xC4 CPY Zero Page
  | cmpZp (a : Byte)          -- 0xC5 CMP Zero Page
  | decZp (a : Byte)          -- 0xC6 DEC Zero Page
  | dcpZp (a : Byte)          -- 0xC7 DCP Zero Page
  | iny                       -- 0xC8 INY Implied
  | cmpImm (i : Byte)         -- 0xC9 CMP Immediate
  | dex                       -- 0xCA DEX Implied
  | sbx (i : Byte)            -- 0xCB SBX Immediate
  | cpyAbs (w : Word)         -- 0xCC CPY Absolute
  | cmpAbs (w : Word)         -- 0xCD CMP Absolute
  | decAbs (w : Word)         -- 0xCE DEC Absolute
  | dcpAbs (w : Word)         -- 0xCF DCP Absolute
  | bne (o : Byte)            -- 0xD0 BNE Relative
  | cmpIndY (a : Byte)        -- 0xD1 CMP (Indirect),Y
  | dcpIndY (a : Byte)        -- 0xD3 DCP (Indirect),Y
  | cmpZpX (a : Byte)         -- 0xD5 CMP Zero Page,X
  | decZpX (a : Byte)         -- 0xD6 DEC Zero Page,X
  | dcpZpX (a : Byte)         -- 0xD7 DCP Zero Page,X
  | cld                       -- 0xD8 CLD Implied
  | cmpAbsY (w : Word)        -- 0xD9 CMP Absolute,Y
  | dcpAbsY (w : Word)        -- 0xDB DCP Absolute,Y
  | cmpAbsX (w : Word)        -- 0xDD CMP Absolute,X
  | decAbsX (w : Word)        -- 0xDE DEC Absolute,X
  | dcpAbsX (w : Word)        -- 0xDF DCP Absolute,X
  | cpxImm (i : Byte)         -- 0xE0 CPX Immediate
  | sbcIndX (a : Byte)        -- 0xE1 SBC (Indirect,X)
  | iscIndX (a : Byte)        -- 0xE3 ISC (Indirect,X)
  | cpxZp (a : Byte)          -- 0xE4 CPX Zero Page
  | sbcZp (a : Byte)          -- 0xE5 SBC Zero Page
  | incZp (a : Byte)          -- 0xE6 INC Zero Page
  | iscZp (a : Byte)          -- 0xE7 ISC Zero Page
  | inx                       -- 0xE8 INX Implied
  | sbcImm (i : Byte)         -- 0xE9 SBC Immediate
  | usbc (i : Byte)           -- 0xEB USBC Immediate
  | cpxAbs (w : Word)         -- 0xEC CPX Absolute
  | sbcAbs (w : Word)         -- 0xED SBC Absolute
  | incAbs (w : Word)         -- 0xEE INC Absolute
  | iscAbs (w : Word)         -- 0xEF ISC Absolute
  | beq (o : Byte)            -- 0xF0 BEQ Relative
  | sbcIndY (a : Byte)        -- 0xF1 SBC (Indirect),Y
  | iscIndY (a : Byte)        -- 0xF3 ISC (Indirect),Y
  | sbcZpX (a : Byte)         -- 0xF5 SBC Zero Page,X
  | incZpX (a : Byte)         -- 0xF6 INC Zero Page,X
  | iscZpX (a : Byte)         -- 0xF7 ISC Zero Page,X
  | sed                       -- 0xF8 SED Implied
  | sbcAbsY (w : Word)        -- 0xF9 SBC Absolute,Y
  | iscAbsY (w : Word)        -- 0xFB ISC Absolute,Y
  | sbcAbsX (w : Word)        -- 0xFD SBC Absolute,X
  | incAbsX (w : Word)        -- 0xFE INC Absolute,X
  | iscAbsX (w : Word)        -- 0xFF ISC Absolute,X
  deriving DecidableEq, Repr

end Sys2Proof
end

