-- ==== Sys2Proof/WellFormed.lean ====
section
/-! DEFINITION. What a well-formed input of the model is: an instruction (spec/30_encoding.md R58, R63), a setting of
the parameters (spec/00_scope.md R6), a program for the loader (spec/70_reset_and_hazards.md R225). -/

namespace Sys2Proof

/-- An instruction term is well formed when a constructor that stands for several rows carries the opcode byte of one
of them (R58). Every other constructor is one row, with operands of exactly the width the row gives (R54), so every
term of it is well formed. -/
def Instr.wf : Instr → Bool
  | .jam op => [0x02, 0x12, 0x22, 0x32, 0x42, 0x52, 0x62, 0x72, 0x92, 0xB2, 0xD2, 0xF2].contains op
  | .nopZp op _ => [0x04, 0x44, 0x64].contains op
  | .anc op _ => [0x0B, 0x2B].contains op
  | .nopZpX op _ => [0x14, 0x34, 0x54, 0x74, 0xD4, 0xF4].contains op
  | .nop op => [0x1A, 0x3A, 0x5A, 0x7A, 0xDA, 0xEA, 0xFA].contains op
  | .nopAbsX op _ => [0x1C, 0x3C, 0x5C, 0x7C, 0xDC, 0xFC].contains op
  | .nopImm op _ => [0x80, 0x82, 0x89, 0xC2, 0xE2].contains op
  | _ => true

/-- The list of opcode bytes that stands for a set has one canonical form: strictly rising. -/
abbrev strictlyRising (l : List Byte) : Prop := l.Pairwise (fun a b => a.toNat < b.toNat)

/-- `HALT_OPCODES` is "a set of opcode bytes" (R6), written in its canonical form (log 18). -/
abbrev Params.wf (p : Params) : Prop := strictlyRising p.haltOpcodes

/-- A program's bytes fit the 65,536 addresses (R5, R225), so no byte of it is placed over another. -/
abbrev Program.wf (p : Program) : Prop := p.bytes.length ≤ 65536

end Sys2Proof
end

