-- ==== Sys2Proof/Decode.lean ====
section
/-! DEFINITION. The Instruction Table, the decoder and the encoder (spec/30_encoding.md R53 to R64, spec/41_dispatch.md
R88, R111). The opcode byte alone selects operation, mode and length (R53, R56), the same in every state (R64). -/

namespace Sys2Proof

/-! ## Bytes and words -/

/-- `hi ++ lo`: the 16-bit word `hi * 256 + lo` (R8). -/
def joinBytes (hi lo : Byte) : Word := hi ++ lo

/-- `high(w)`, that is `w[15:8]` (R8). -/
def highByte (w : Word) : Byte := w.extractLsb' 8 8

/-- `low(w)`, that is `w[7:0]` (R8). -/
def lowByte (w : Word) : Byte := w.extractLsb' 0 8

/-- `zext_16(b)` (R8). -/
def zext16 (b : Byte) : Word := b.zeroExtend 16

/-- `sext_16(b)`: b, or b + 0xFF00 where bit 7 is set (R8). -/
def sext16 (b : Byte) : Word := b.signExtend 16

/-! ## The Instruction Table -/

/-- The 77 mnemonics of spec/opcode_table.json, in the order of their first opcode. -/
inductive Mnemonic where
  | BRK | ORA | JAM | SLO | NOP | ASL | PHP | ANC | BPL | CLC | JSR
  | AND | RLA | BIT | ROL | PLP | BMI | SEC | RTI | EOR | SRE | LSR
  | PHA | ALR | JMP | BVC | CLI | RTS | ADC | RRA | ROR | PLA | ARR
  | BVS | SEI | STA | SAX | STY | STX | DEY | TXA | ANE | BCC | SHA
  | TYA | TXS | TAS | SHY | SHX | LDY | LDA | LDX | LAX | TAY | TAX
  | LXA | BCS | CLV | TSX | LAS | CPY | CMP | DCP | DEC | INY | DEX
  | SBX | BNE | CLD | CPX | SBC | ISC | INC | INX | USBC | BEQ | SED
  deriving DecidableEq, Repr

/-- The 13 addressing modes (R5, R54; spec/40_addressing.md R72 to R83). -/
inductive Mode where
  | implied | accumulator | immediate | zeroPage | zeroPageX | zeroPageY
  | absolute | absoluteX | absoluteY | indirect | indirectX | indirectY | relative
  deriving DecidableEq, Repr

/-- How many operand bytes follow the opcode byte (R54). -/
def Mode.operandLength : Mode → Nat
  | .implied | .accumulator => 0
  | .immediate | .zeroPage | .zeroPageX | .zeroPageY | .indirectX | .indirectY | .relative => 1
  | .absolute | .absoluteX | .absoluteY | .indirect => 2

/-- One entry of the Instruction Table (R61): "(opcode byte, mnemonic, addressing mode, operand byte-length, base
cycle count, '+1 on page cross' flag, illegal/undocumented flag)". The operand length is the mode's (R56). -/
structure Descriptor where
  opcode : Byte
  mnemonic : Mnemonic
  mode : Mode
  baseCycles : Nat
  pageCrossPlus1 : Bool
  documented : Bool
  deriving DecidableEq, Repr

/-- The instruction's length in bytes: "1 opcode byte + mode's operand length" (R53, R56). -/
def Descriptor.length (d : Descriptor) : Nat := 1 + d.mode.operandLength

/-- Opcodes 0x00 to 0x0F (R58, R63). -/
def opcodeRow0 : List Descriptor := [
  ⟨0x00, .BRK, .implied, 7, false, true⟩,
  ⟨0x01, .ORA, .indirectX, 6, false, true⟩,
  ⟨0x02, .JAM, .implied, 0, false, false⟩,
  ⟨0x03, .SLO, .indirectX, 8, false, false⟩,
  ⟨0x04, .NOP, .zeroPage, 3, false, false⟩,
  ⟨0x05, .ORA, .zeroPage, 3, false, true⟩,
  ⟨0x06, .ASL, .zeroPage, 5, false, true⟩,
  ⟨0x07, .SLO, .zeroPage, 5, false, false⟩,
  ⟨0x08, .PHP, .implied, 3, false, true⟩,
  ⟨0x09, .ORA, .immediate, 2, false, true⟩,
  ⟨0x0A, .ASL, .accumulator, 2, false, true⟩,
  ⟨0x0B, .ANC, .immediate, 2, false, false⟩,
  ⟨0x0C, .NOP, .absolute, 4, false, false⟩,
  ⟨0x0D, .ORA, .absolute, 4, false, true⟩,
  ⟨0x0E, .ASL, .absolute, 6, false, true⟩,
  ⟨0x0F, .SLO, .absolute, 6, false, false⟩]

/-- Opcodes 0x10 to 0x1F (R58, R63). -/
def opcodeRow1 : List Descriptor := [
  ⟨0x10, .BPL, .relative, 2, false, true⟩,
  ⟨0x11, .ORA, .indirectY, 5, true, true⟩,
  ⟨0x12, .JAM, .implied, 0, false, false⟩,
  ⟨0x13, .SLO, .indirectY, 8, false, false⟩,
  ⟨0x14, .NOP, .zeroPageX, 4, false, false⟩,
  ⟨0x15, .ORA, .zeroPageX, 4, false, true⟩,
  ⟨0x16, .ASL, .zeroPageX, 6, false, true⟩,
  ⟨0x17, .SLO, .zeroPageX, 6, false, false⟩,
  ⟨0x18, .CLC, .implied, 2, false, true⟩,
  ⟨0x19, .ORA, .absoluteY, 4, true, true⟩,
  ⟨0x1A, .NOP, .implied, 2, false, false⟩,
  ⟨0x1B, .SLO, .absoluteY, 7, false, false⟩,
  ⟨0x1C, .NOP, .absoluteX, 4, true, false⟩,
  ⟨0x1D, .ORA, .absoluteX, 4, true, true⟩,
  ⟨0x1E, .ASL, .absoluteX, 7, false, true⟩,
  ⟨0x1F, .SLO, .absoluteX, 7, false, false⟩]

/-- Opcodes 0x20 to 0x2F (R58, R63). -/
def opcodeRow2 : List Descriptor := [
  ⟨0x20, .JSR, .absolute, 6, false, true⟩,
  ⟨0x21, .AND, .indirectX, 6, false, true⟩,
  ⟨0x22, .JAM, .implied, 0, false, false⟩,
  ⟨0x23, .RLA, .indirectX, 8, false, false⟩,
  ⟨0x24, .BIT, .zeroPage, 3, false, true⟩,
  ⟨0x25, .AND, .zeroPage, 3, false, true⟩,
  ⟨0x26, .ROL, .zeroPage, 5, false, true⟩,
  ⟨0x27, .RLA, .zeroPage, 5, false, false⟩,
  ⟨0x28, .PLP, .implied, 4, false, true⟩,
  ⟨0x29, .AND, .immediate, 2, false, true⟩,
  ⟨0x2A, .ROL, .accumulator, 2, false, true⟩,
  ⟨0x2B, .ANC, .immediate, 2, false, false⟩,
  ⟨0x2C, .BIT, .absolute, 4, false, true⟩,
  ⟨0x2D, .AND, .absolute, 4, false, true⟩,
  ⟨0x2E, .ROL, .absolute, 6, false, true⟩,
  ⟨0x2F, .RLA, .absolute, 6, false, false⟩]

/-- Opcodes 0x30 to 0x3F (R58, R63). -/
def opcodeRow3 : List Descriptor := [
  ⟨0x30, .BMI, .relative, 2, false, true⟩,
  ⟨0x31, .AND, .indirectY, 5, true, true⟩,
  ⟨0x32, .JAM, .implied, 0, false, false⟩,
  ⟨0x33, .RLA, .indirectY, 8, false, false⟩,
  ⟨0x34, .NOP, .zeroPageX, 4, false, false⟩,
  ⟨0x35, .AND, .zeroPageX, 4, false, true⟩,
  ⟨0x36, .ROL, .zeroPageX, 6, false, true⟩,
  ⟨0x37, .RLA, .zeroPageX, 6, false, false⟩,
  ⟨0x38, .SEC, .implied, 2, false, true⟩,
  ⟨0x39, .AND, .absoluteY, 4, true, true⟩,
  ⟨0x3A, .NOP, .implied, 2, false, false⟩,
  ⟨0x3B, .RLA, .absoluteY, 7, false, false⟩,
  ⟨0x3C, .NOP, .absoluteX, 4, true, false⟩,
  ⟨0x3D, .AND, .absoluteX, 4, true, true⟩,
  ⟨0x3E, .ROL, .absoluteX, 7, false, true⟩,
  ⟨0x3F, .RLA, .absoluteX, 7, false, false⟩]

/-- Opcodes 0x40 to 0x4F (R58, R63). -/
def opcodeRow4 : List Descriptor := [
  ⟨0x40, .RTI, .implied, 6, false, true⟩,
  ⟨0x41, .EOR, .indirectX, 6, false, true⟩,
  ⟨0x42, .JAM, .implied, 0, false, false⟩,
  ⟨0x43, .SRE, .indirectX, 8, false, false⟩,
  ⟨0x44, .NOP, .zeroPage, 3, false, false⟩,
  ⟨0x45, .EOR, .zeroPage, 3, false, true⟩,
  ⟨0x46, .LSR, .zeroPage, 5, false, true⟩,
  ⟨0x47, .SRE, .zeroPage, 5, false, false⟩,
  ⟨0x48, .PHA, .implied, 3, false, true⟩,
  ⟨0x49, .EOR, .immediate, 2, false, true⟩,
  ⟨0x4A, .LSR, .accumulator, 2, false, true⟩,
  ⟨0x4B, .ALR, .immediate, 2, false, false⟩,
  ⟨0x4C, .JMP, .absolute, 3, false, true⟩,
  ⟨0x4D, .EOR, .absolute, 4, false, true⟩,
  ⟨0x4E, .LSR, .absolute, 6, false, true⟩,
  ⟨0x4F, .SRE, .absolute, 6, false, false⟩]

/-- Opcodes 0x50 to 0x5F (R58, R63). -/
def opcodeRow5 : List Descriptor := [
  ⟨0x50, .BVC, .relative, 2, false, true⟩,
  ⟨0x51, .EOR, .indirectY, 5, true, true⟩,
  ⟨0x52, .JAM, .implied, 0, false, false⟩,
  ⟨0x53, .SRE, .indirectY, 8, false, false⟩,
  ⟨0x54, .NOP, .zeroPageX, 4, false, false⟩,
  ⟨0x55, .EOR, .zeroPageX, 4, false, true⟩,
  ⟨0x56, .LSR, .zeroPageX, 6, false, true⟩,
  ⟨0x57, .SRE, .zeroPageX, 6, false, false⟩,
  ⟨0x58, .CLI, .implied, 2, false, true⟩,
  ⟨0x59, .EOR, .absoluteY, 4, true, true⟩,
  ⟨0x5A, .NOP, .implied, 2, false, false⟩,
  ⟨0x5B, .SRE, .absoluteY, 7, false, false⟩,
  ⟨0x5C, .NOP, .absoluteX, 4, true, false⟩,
  ⟨0x5D, .EOR, .absoluteX, 4, true, true⟩,
  ⟨0x5E, .LSR, .absoluteX, 7, false, true⟩,
  ⟨0x5F, .SRE, .absoluteX, 7, false, false⟩]

/-- Opcodes 0x60 to 0x6F (R58, R63). -/
def opcodeRow6 : List Descriptor := [
  ⟨0x60, .RTS, .implied, 6, false, true⟩,
  ⟨0x61, .ADC, .indirectX, 6, false, true⟩,
  ⟨0x62, .JAM, .implied, 0, false, false⟩,
  ⟨0x63, .RRA, .indirectX, 8, false, false⟩,
  ⟨0x64, .NOP, .zeroPage, 3, false, false⟩,
  ⟨0x65, .ADC, .zeroPage, 3, false, true⟩,
  ⟨0x66, .ROR, .zeroPage, 5, false, true⟩,
  ⟨0x67, .RRA, .zeroPage, 5, false, false⟩,
  ⟨0x68, .PLA, .implied, 4, false, true⟩,
  ⟨0x69, .ADC, .immediate, 2, false, true⟩,
  ⟨0x6A, .ROR, .accumulator, 2, false, true⟩,
  ⟨0x6B, .ARR, .immediate, 2, false, false⟩,
  ⟨0x6C, .JMP, .indirect, 5, false, true⟩,
  ⟨0x6D, .ADC, .absolute, 4, false, true⟩,
  ⟨0x6E, .ROR, .absolute, 6, false, true⟩,
  ⟨0x6F, .RRA, .absolute, 6, false, false⟩]

/-- Opcodes 0x70 to 0x7F (R58, R63). -/
def opcodeRow7 : List Descriptor := [
  ⟨0x70, .BVS, .relative, 2, false, true⟩,
  ⟨0x71, .ADC, .indirectY, 5, true, true⟩,
  ⟨0x72, .JAM, .implied, 0, false, false⟩,
  ⟨0x73, .RRA, .indirectY, 8, false, false⟩,
  ⟨0x74, .NOP, .zeroPageX, 4, false, false⟩,
  ⟨0x75, .ADC, .zeroPageX, 4, false, true⟩,
  ⟨0x76, .ROR, .zeroPageX, 6, false, true⟩,
  ⟨0x77, .RRA, .zeroPageX, 6, false, false⟩,
  ⟨0x78, .SEI, .implied, 2, false, true⟩,
  ⟨0x79, .ADC, .absoluteY, 4, true, true⟩,
  ⟨0x7A, .NOP, .implied, 2, false, false⟩,
  ⟨0x7B, .RRA, .absoluteY, 7, false, false⟩,
  ⟨0x7C, .NOP, .absoluteX, 4, true, false⟩,
  ⟨0x7D, .ADC, .absoluteX, 4, true, true⟩,
  ⟨0x7E, .ROR, .absoluteX, 7, false, true⟩,
  ⟨0x7F, .RRA, .absoluteX, 7, false, false⟩]

/-- Opcodes 0x80 to 0x8F (R58, R63). -/
def opcodeRow8 : List Descriptor := [
  ⟨0x80, .NOP, .immediate, 2, false, false⟩,
  ⟨0x81, .STA, .indirectX, 6, false, true⟩,
  ⟨0x82, .NOP, .immediate, 2, false, false⟩,
  ⟨0x83, .SAX, .indirectX, 6, false, false⟩,
  ⟨0x84, .STY, .zeroPage, 3, false, true⟩,
  ⟨0x85, .STA, .zeroPage, 3, false, true⟩,
  ⟨0x86, .STX, .zeroPage, 3, false, true⟩,
  ⟨0x87, .SAX, .zeroPage, 3, false, false⟩,
  ⟨0x88, .DEY, .implied, 2, false, true⟩,
  ⟨0x89, .NOP, .immediate, 2, false, false⟩,
  ⟨0x8A, .TXA, .implied, 2, false, true⟩,
  ⟨0x8B, .ANE, .immediate, 2, false, false⟩,
  ⟨0x8C, .STY, .absolute, 4, false, true⟩,
  ⟨0x8D, .STA, .absolute, 4, false, true⟩,
  ⟨0x8E, .STX, .absolute, 4, false, true⟩,
  ⟨0x8F, .SAX, .absolute, 4, false, false⟩]

/-- Opcodes 0x90 to 0x9F (R58, R63). -/
def opcodeRow9 : List Descriptor := [
  ⟨0x90, .BCC, .relative, 2, false, true⟩,
  ⟨0x91, .STA, .indirectY, 6, false, true⟩,
  ⟨0x92, .JAM, .implied, 0, false, false⟩,
  ⟨0x93, .SHA, .indirectY, 6, false, false⟩,
  ⟨0x94, .STY, .zeroPageX, 4, false, true⟩,
  ⟨0x95, .STA, .zeroPageX, 4, false, true⟩,
  ⟨0x96, .STX, .zeroPageY, 4, false, true⟩,
  ⟨0x97, .SAX, .zeroPageY, 4, false, false⟩,
  ⟨0x98, .TYA, .implied, 2, false, true⟩,
  ⟨0x99, .STA, .absoluteY, 5, false, true⟩,
  ⟨0x9A, .TXS, .implied, 2, false, true⟩,
  ⟨0x9B, .TAS, .absoluteY, 5, false, false⟩,
  ⟨0x9C, .SHY, .absoluteX, 5, false, false⟩,
  ⟨0x9D, .STA, .absoluteX, 5, false, true⟩,
  ⟨0x9E, .SHX, .absoluteY, 5, false, false⟩,
  ⟨0x9F, .SHA, .absoluteY, 5, false, false⟩]

/-- Opcodes 0xA0 to 0xAF (R58, R63). -/
def opcodeRowA : List Descriptor := [
  ⟨0xA0, .LDY, .immediate, 2, false, true⟩,
  ⟨0xA1, .LDA, .indirectX, 6, false, true⟩,
  ⟨0xA2, .LDX, .immediate, 2, false, true⟩,
  ⟨0xA3, .LAX, .indirectX, 6, false, false⟩,
  ⟨0xA4, .LDY, .zeroPage, 3, false, true⟩,
  ⟨0xA5, .LDA, .zeroPage, 3, false, true⟩,
  ⟨0xA6, .LDX, .zeroPage, 3, false, true⟩,
  ⟨0xA7, .LAX, .zeroPage, 3, false, false⟩,
  ⟨0xA8, .TAY, .implied, 2, false, true⟩,
  ⟨0xA9, .LDA, .immediate, 2, false, true⟩,
  ⟨0xAA, .TAX, .implied, 2, false, true⟩,
  ⟨0xAB, .LXA, .immediate, 2, false, false⟩,
  ⟨0xAC, .LDY, .absolute, 4, false, true⟩,
  ⟨0xAD, .LDA, .absolute, 4, false, true⟩,
  ⟨0xAE, .LDX, .absolute, 4, false, true⟩,
  ⟨0xAF, .LAX, .absolute, 4, false, false⟩]

/-- Opcodes 0xB0 to 0xBF (R58, R63). -/
def opcodeRowB : List Descriptor := [
  ⟨0xB0, .BCS, .relative, 2, false, true⟩,
  ⟨0xB1, .LDA, .indirectY, 5, true, true⟩,
  ⟨0xB2, .JAM, .implied, 0, false, false⟩,
  ⟨0xB3, .LAX, .indirectY, 5, true, false⟩,
  ⟨0xB4, .LDY, .zeroPageX, 4, false, true⟩,
  ⟨0xB5, .LDA, .zeroPageX, 4, false, true⟩,
  ⟨0xB6, .LDX, .zeroPageY, 4, false, true⟩,
  ⟨0xB7, .LAX, .zeroPageY, 4, false, false⟩,
  ⟨0xB8, .CLV, .implied, 2, false, true⟩,
  ⟨0xB9, .LDA, .absoluteY, 4, true, true⟩,
  ⟨0xBA, .TSX, .implied, 2, false, true⟩,
  ⟨0xBB, .LAS, .absoluteY, 4, true, false⟩,
  ⟨0xBC, .LDY, .absoluteX, 4, true, true⟩,
  ⟨0xBD, .LDA, .absoluteX, 4, true, true⟩,
  ⟨0xBE, .LDX, .absoluteY, 4, true, true⟩,
  ⟨0xBF, .LAX, .absoluteY, 4, true, false⟩]

/-- Opcodes 0xC0 to 0xCF (R58, R63). -/
def opcodeRowC : List Descriptor := [
  ⟨0xC0, .CPY, .immediate, 2, false, true⟩,
  ⟨0xC1, .CMP, .indirectX, 6, false, true⟩,
  ⟨0xC2, .NOP, .immediate, 2, false, false⟩,
  ⟨0xC3, .DCP, .indirectX, 8, false, false⟩,
  ⟨0xC4, .CPY, .zeroPage, 3, false, true⟩,
  ⟨0xC5, .CMP, .zeroPage, 3, false, true⟩,
  ⟨0xC6, .DEC, .zeroPage, 5, false, true⟩,
  ⟨0xC7, .DCP, .zeroPage, 5, false, false⟩,
  ⟨0xC8, .INY, .implied, 2, false, true⟩,
  ⟨0xC9, .CMP, .immediate, 2, false, true⟩,
  ⟨0xCA, .DEX, .implied, 2, false, true⟩,
  ⟨0xCB, .SBX, .immediate, 2, false, false⟩,
  ⟨0xCC, .CPY, .absolute, 4, false, true⟩,
  ⟨0xCD, .CMP, .absolute, 4, false, true⟩,
  ⟨0xCE, .DEC, .absolute, 6, false, true⟩,
  ⟨0xCF, .DCP, .absolute, 6, false, false⟩]

/-- Opcodes 0xD0 to 0xDF (R58, R63). -/
def opcodeRowD : List Descriptor := [
  ⟨0xD0, .BNE, .relative, 2, false, true⟩,
  ⟨0xD1, .CMP, .indirectY, 5, true, true⟩,
  ⟨0xD2, .JAM, .implied, 0, false, false⟩,
  ⟨0xD3, .DCP, .indirectY, 8, false, false⟩,
  ⟨0xD4, .NOP, .zeroPageX, 4, false, false⟩,
  ⟨0xD5, .CMP, .zeroPageX, 4, false, true⟩,
  ⟨0xD6, .DEC, .zeroPageX, 6, false, true⟩,
  ⟨0xD7, .DCP, .zeroPageX, 6, false, false⟩,
  ⟨0xD8, .CLD, .implied, 2, false, true⟩,
  ⟨0xD9, .CMP, .absoluteY, 4, true, true⟩,
  ⟨0xDA, .NOP, .implied, 2, false, false⟩,
  ⟨0xDB, .DCP, .absoluteY, 7, false, false⟩,
  ⟨0xDC, .NOP, .absoluteX, 4, true, false⟩,
  ⟨0xDD, .CMP, .absoluteX, 4, true, true⟩,
  ⟨0xDE, .DEC, .absoluteX, 7, false, true⟩,
  ⟨0xDF, .DCP, .absoluteX, 7, false, false⟩]

/-- Opcodes 0xE0 to 0xEF (R58, R63). -/
def opcodeRowE : List Descriptor := [
  ⟨0xE0, .CPX, .immediate, 2, false, true⟩,
  ⟨0xE1, .SBC, .indirectX, 6, false, true⟩,
  ⟨0xE2, .NOP, .immediate, 2, false, false⟩,
  ⟨0xE3, .ISC, .indirectX, 8, false, false⟩,
  ⟨0xE4, .CPX, .zeroPage, 3, false, true⟩,
  ⟨0xE5, .SBC, .zeroPage, 3, false, true⟩,
  ⟨0xE6, .INC, .zeroPage, 5, false, true⟩,
  ⟨0xE7, .ISC, .zeroPage, 5, false, false⟩,
  ⟨0xE8, .INX, .implied, 2, false, true⟩,
  ⟨0xE9, .SBC, .immediate, 2, false, true⟩,
  ⟨0xEA, .NOP, .implied, 2, false, true⟩,
  ⟨0xEB, .USBC, .immediate, 2, false, false⟩,
  ⟨0xEC, .CPX, .absolute, 4, false, true⟩,
  ⟨0xED, .SBC, .absolute, 4, false, true⟩,
  ⟨0xEE, .INC, .absolute, 6, false, true⟩,
  ⟨0xEF, .ISC, .absolute, 6, false, false⟩]

/-- Opcodes 0xF0 to 0xFF (R58, R63). -/
def opcodeRowF : List Descriptor := [
  ⟨0xF0, .BEQ, .relative, 2, false, true⟩,
  ⟨0xF1, .SBC, .indirectY, 5, true, true⟩,
  ⟨0xF2, .JAM, .implied, 0, false, false⟩,
  ⟨0xF3, .ISC, .indirectY, 8, false, false⟩,
  ⟨0xF4, .NOP, .zeroPageX, 4, false, false⟩,
  ⟨0xF5, .SBC, .zeroPageX, 4, false, true⟩,
  ⟨0xF6, .INC, .zeroPageX, 6, false, true⟩,
  ⟨0xF7, .ISC, .zeroPageX, 6, false, false⟩,
  ⟨0xF8, .SED, .implied, 2, false, true⟩,
  ⟨0xF9, .SBC, .absoluteY, 4, true, true⟩,
  ⟨0xFA, .NOP, .implied, 2, false, false⟩,
  ⟨0xFB, .ISC, .absoluteY, 7, false, false⟩,
  ⟨0xFC, .NOP, .absoluteX, 4, true, false⟩,
  ⟨0xFD, .SBC, .absoluteX, 4, true, true⟩,
  ⟨0xFE, .INC, .absoluteX, 7, false, true⟩,
  ⟨0xFF, .ISC, .absoluteX, 7, false, false⟩]

/-- The opcode map of R58: one list for each high nibble, one entry for each low nibble. -/
def instructionTable : List (List Descriptor) := [
  opcodeRow0, opcodeRow1, opcodeRow2, opcodeRow3, opcodeRow4, opcodeRow5, opcodeRow6, opcodeRow7,
  opcodeRow8, opcodeRow9, opcodeRowA, opcodeRowB, opcodeRowC, opcodeRowD, opcodeRowE, opcodeRowF]

/-- `Table[op]` (R61, R88). The table has an entry for every byte ("exactly 256 entries", R61; R111;
`Laws.instructionTable_full`), so the defaults are never used. -/
def descriptor (op : Byte) : Descriptor :=
  (instructionTable.getD (op.toNat / 16) []).getD (op.toNat % 16) ⟨op, .JAM, .implied, 0, false, false⟩

/-! ## Decoding -/

/-- How an instruction is built from the bytes after its opcode byte (R54, R55). -/
inductive Former where
  /-- no operand byte -/
  | op (i : Instr)
  /-- one operand byte -/
  | byte (f : Byte → Instr)
  /-- two operand bytes, the low byte first (R40, R55) -/
  | word (f : Word → Instr)

/-- Opcodes 0x00 to 0x0F. -/
def formerRow0 : List Former := [
  .op .brk, .byte .oraIndX, .op (.jam 0x02), .byte .sloIndX,
  .byte (.nopZp 0x04), .byte .oraZp, .byte .aslZp, .byte .sloZp,
  .op .php, .byte .oraImm, .op .aslAcc, .byte (.anc 0x0B),
  .word .nopAbs, .word .oraAbs, .word .aslAbs, .word .sloAbs]

/-- Opcodes 0x10 to 0x1F. -/
def formerRow1 : List Former := [
  .byte .bpl, .byte .oraIndY, .op (.jam 0x12), .byte .sloIndY,
  .byte (.nopZpX 0x14), .byte .oraZpX, .byte .aslZpX, .byte .sloZpX,
  .op .clc, .word .oraAbsY, .op (.nop 0x1A), .word .sloAbsY,
  .word (.nopAbsX 0x1C), .word .oraAbsX, .word .aslAbsX, .word .sloAbsX]

/-- Opcodes 0x20 to 0x2F. -/
def formerRow2 : List Former := [
  .word .jsr, .byte .andIndX, .op (.jam 0x22), .byte .rlaIndX,
  .byte .bitZp, .byte .andZp, .byte .rolZp, .byte .rlaZp,
  .op .plp, .byte .andImm, .op .rolAcc, .byte (.anc 0x2B),
  .word .bitAbs, .word .andAbs, .word .rolAbs, .word .rlaAbs]

/-- Opcodes 0x30 to 0x3F. -/
def formerRow3 : List Former := [
  .byte .bmi, .byte .andIndY, .op (.jam 0x32), .byte .rlaIndY,
  .byte (.nopZpX 0x34), .byte .andZpX, .byte .rolZpX, .byte .rlaZpX,
  .op .sec, .word .andAbsY, .op (.nop 0x3A), .word .rlaAbsY,
  .word (.nopAbsX 0x3C), .word .andAbsX, .word .rolAbsX, .word .rlaAbsX]

/-- Opcodes 0x40 to 0x4F. -/
def formerRow4 : List Former := [
  .op .rti, .byte .eorIndX, .op (.jam 0x42), .byte .sreIndX,
  .byte (.nopZp 0x44), .byte .eorZp, .byte .lsrZp, .byte .sreZp,
  .op .pha, .byte .eorImm, .op .lsrAcc, .byte .alr,
  .word .jmpAbs, .word .eorAbs, .word .lsrAbs, .word .sreAbs]

/-- Opcodes 0x50 to 0x5F. -/
def formerRow5 : List Former := [
  .byte .bvc, .byte .eorIndY, .op (.jam 0x52), .byte .sreIndY,
  .byte (.nopZpX 0x54), .byte .eorZpX, .byte .lsrZpX, .byte .sreZpX,
  .op .cli, .word .eorAbsY, .op (.nop 0x5A), .word .sreAbsY,
  .word (.nopAbsX 0x5C), .word .eorAbsX, .word .lsrAbsX, .word .sreAbsX]

/-- Opcodes 0x60 to 0x6F. -/
def formerRow6 : List Former := [
  .op .rts, .byte .adcIndX, .op (.jam 0x62), .byte .rraIndX,
  .byte (.nopZp 0x64), .byte .adcZp, .byte .rorZp, .byte .rraZp,
  .op .pla, .byte .adcImm, .op .rorAcc, .byte .arr,
  .word .jmpInd, .word .adcAbs, .word .rorAbs, .word .rraAbs]

/-- Opcodes 0x70 to 0x7F. -/
def formerRow7 : List Former := [
  .byte .bvs, .byte .adcIndY, .op (.jam 0x72), .byte .rraIndY,
  .byte (.nopZpX 0x74), .byte .adcZpX, .byte .rorZpX, .byte .rraZpX,
  .op .sei, .word .adcAbsY, .op (.nop 0x7A), .word .rraAbsY,
  .word (.nopAbsX 0x7C), .word .adcAbsX, .word .rorAbsX, .word .rraAbsX]

/-- Opcodes 0x80 to 0x8F. -/
def formerRow8 : List Former := [
  .byte (.nopImm 0x80), .byte .staIndX, .byte (.nopImm 0x82), .byte .saxIndX,
  .byte .styZp, .byte .staZp, .byte .stxZp, .byte .saxZp,
  .op .dey, .byte (.nopImm 0x89), .op .txa, .byte .ane,
  .word .styAbs, .word .staAbs, .word .stxAbs, .word .saxAbs]

/-- Opcodes 0x90 to 0x9F. -/
def formerRow9 : List Former := [
  .byte .bcc, .byte .staIndY, .op (.jam 0x92), .byte .shaIndY,
  .byte .styZpX, .byte .staZpX, .byte .stxZpY, .byte .saxZpY,
  .op .tya, .word .staAbsY, .op .txs, .word .tas,
  .word .shy, .word .staAbsX, .word .shx, .word .shaAbsY]

/-- Opcodes 0xA0 to 0xAF. -/
def formerRowA : List Former := [
  .byte .ldyImm, .byte .ldaIndX, .byte .ldxImm, .byte .laxIndX,
  .byte .ldyZp, .byte .ldaZp, .byte .ldxZp, .byte .laxZp,
  .op .tay, .byte .ldaImm, .op .tax, .byte .lxa,
  .word .ldyAbs, .word .ldaAbs, .word .ldxAbs, .word .laxAbs]

/-- Opcodes 0xB0 to 0xBF. -/
def formerRowB : List Former := [
  .byte .bcs, .byte .ldaIndY, .op (.jam 0xB2), .byte .laxIndY,
  .byte .ldyZpX, .byte .ldaZpX, .byte .ldxZpY, .byte .laxZpY,
  .op .clv, .word .ldaAbsY, .op .tsx, .word .las,
  .word .ldyAbsX, .word .ldaAbsX, .word .ldxAbsY, .word .laxAbsY]

/-- Opcodes 0xC0 to 0xCF. -/
def formerRowC : List Former := [
  .byte .cpyImm, .byte .cmpIndX, .byte (.nopImm 0xC2), .byte .dcpIndX,
  .byte .cpyZp, .byte .cmpZp, .byte .decZp, .byte .dcpZp,
  .op .iny, .byte .cmpImm, .op .dex, .byte .sbx,
  .word .cpyAbs, .word .cmpAbs, .word .decAbs, .word .dcpAbs]

/-- Opcodes 0xD0 to 0xDF. -/
def formerRowD : List Former := [
  .byte .bne, .byte .cmpIndY, .op (.jam 0xD2), .byte .dcpIndY,
  .byte (.nopZpX 0xD4), .byte .cmpZpX, .byte .decZpX, .byte .dcpZpX,
  .op .cld, .word .cmpAbsY, .op (.nop 0xDA), .word .dcpAbsY,
  .word (.nopAbsX 0xDC), .word .cmpAbsX, .word .decAbsX, .word .dcpAbsX]

/-- Opcodes 0xE0 to 0xEF. -/
def formerRowE : List Former := [
  .byte .cpxImm, .byte .sbcIndX, .byte (.nopImm 0xE2), .byte .iscIndX,
  .byte .cpxZp, .byte .sbcZp, .byte .incZp, .byte .iscZp,
  .op .inx, .byte .sbcImm, .op (.nop 0xEA), .byte .usbc,
  .word .cpxAbs, .word .sbcAbs, .word .incAbs, .word .iscAbs]

/-- Opcodes 0xF0 to 0xFF. -/
def formerRowF : List Former := [
  .byte .beq, .byte .sbcIndY, .op (.jam 0xF2), .byte .iscIndY,
  .byte (.nopZpX 0xF4), .byte .sbcZpX, .byte .incZpX, .byte .iscZpX,
  .op .sed, .word .sbcAbsY, .op (.nop 0xFA), .word .iscAbsY,
  .word (.nopAbsX 0xFC), .word .sbcAbsX, .word .incAbsX, .word .iscAbsX]

/-- The instructions of the opcode map, laid out as `instructionTable`. -/
def formers : List (List Former) := [
  formerRow0, formerRow1, formerRow2, formerRow3, formerRow4, formerRow5, formerRow6, formerRow7,
  formerRow8, formerRow9, formerRowA, formerRowB, formerRowC, formerRowD, formerRowE, formerRowF]

/-- The way of building the instruction of an opcode byte; the defaults are never used, as in `descriptor`. -/
def former (op : Byte) : Former :=
  (formers.getD (op.toNat / 16) []).getD (op.toNat % 16) (.op (.jam op))

/-- The instruction of an opcode byte and the two bytes after it; a shorter instruction leaves the later bytes
unread. Total: "every byte value decodes to some descriptor" (R59, R60, R111). -/
def instrOfBytes (op b1 b2 : Byte) : Instr :=
  match former op with
  | .op i => i
  | .byte f => f b1
  | .word f => f (joinBytes b2 b1)

/-- Why a byte string does not begin with a whole instruction. -/
inductive DecodeReject where
  /-- there is no opcode byte -/
  | noBytes
  /-- the string ends before the operand bytes that this opcode takes -/
  | operandMissing (op : Byte)
  deriving DecidableEq, Repr

/-- What decoding a byte string gives: the instruction and the bytes after it, or a rejection by name. -/
inductive Decoded where
  | instr (i : Instr) (rest : List Byte)
  | rejected (r : DecodeReject)
  deriving DecidableEq, Repr

/-- The decoder on a byte string, total on any bytes. Only a string that ends too early is rejected: no opcode is
illegal (R60). -/
def decode : List Byte → Decoded
  | [] => .rejected .noBytes
  | op :: rest =>
    match former op, rest with
    | .op i, rest => .instr i rest
    | .byte f, a :: rest => .instr (f a) rest
    | .word f, lo :: hi :: rest => .instr (f (joinBytes hi lo)) rest
    | _, _ => .rejected (.operandMissing op)

/-- The bytes of an instruction whose bits are `w` as spec/opcode_table.json numbers them: bit 0 is the least
significant bit of the first byte, and every bit above `nbits` is 0 (log 20). -/
def tableBytes (nbits w : Nat) : List Byte :=
  [BitVec.ofNat 8 (w % 2 ^ nbits), BitVec.ofNat 8 (w % 2 ^ nbits / 256), BitVec.ofNat 8 (w % 2 ^ nbits / 65536)]

/-- The instruction the decoder reads from an instruction whose bits are `w`, numbered as the opcode table does. -/
def decodeTableWord (nbits w : Nat) : Option Instr :=
  match decode (tableBytes nbits w) with
  | .instr i _ => some i
  | .rejected _ => none

/-! ## Operands and encoding -/

/-- An operand in its addressing mode, with the operand bytes assembled as R55 says. -/
inductive Operand where
  | implied
  | accumulator
  | immediate (i : Byte)
  | zeroPage (a : Byte)
  | zeroPageX (a : Byte)
  | zeroPageY (a : Byte)
  | absolute (w : Word)
  | absoluteX (w : Word)
  | absoluteY (w : Word)
  | indirect (w : Word)
  | indirectX (a : Byte)
  | indirectY (a : Byte)
  | relative (o : Byte)
  deriving DecidableEq, Repr

def Operand.mode : Operand → Mode
  | .implied => .implied
  | .accumulator => .accumulator
  | .immediate _ => .immediate
  | .zeroPage _ => .zeroPage
  | .zeroPageX _ => .zeroPageX
  | .zeroPageY _ => .zeroPageY
  | .absolute _ => .absolute
  | .absoluteX _ => .absoluteX
  | .absoluteY _ => .absoluteY
  | .indirect _ => .indirect
  | .indirectX _ => .indirectX
  | .indirectY _ => .indirectY
  | .relative _ => .relative

/-- The operand bytes as they follow the opcode byte, a 16-bit operand low byte first (R40, R54). -/
def Operand.bytes : Operand → List Byte
  | .implied | .accumulator => []
  | .immediate b | .zeroPage b | .zeroPageX b | .zeroPageY b | .indirectX b | .indirectY b | .relative b => [b]
  | .absolute w | .absoluteX w | .absoluteY w | .indirect w => [lowByte w, highByte w]

/-- The opcode byte of an instruction: the first byte of its encoding (R53, R58). -/
def Instr.opcode : Instr → Byte
  | .brk => 0x00
  | .oraIndX _ => 0x01
  | .jam op => op
  | .sloIndX _ => 0x03
  | .nopZp op _ => op
  | .oraZp _ => 0x05
  | .aslZp _ => 0x06
  | .sloZp _ => 0x07
  | .php => 0x08
  | .oraImm _ => 0x09
  | .aslAcc => 0x0A
  | .anc op _ => op
  | .nopAbs _ => 0x0C
  | .oraAbs _ => 0x0D
  | .aslAbs _ => 0x0E
  | .sloAbs _ => 0x0F
  | .bpl _ => 0x10
  | .oraIndY _ => 0x11
  | .sloIndY _ => 0x13
  | .nopZpX op _ => op
  | .oraZpX _ => 0x15
  | .aslZpX _ => 0x16
  | .sloZpX _ => 0x17
  | .clc => 0x18
  | .oraAbsY _ => 0x19
  | .nop op => op
  | .sloAbsY _ => 0x1B
  | .nopAbsX op _ => op
  | .oraAbsX _ => 0x1D
  | .aslAbsX _ => 0x1E
  | .sloAbsX _ => 0x1F
  | .jsr _ => 0x20
  | .andIndX _ => 0x21
  | .rlaIndX _ => 0x23
  | .bitZp _ => 0x24
  | .andZp _ => 0x25
  | .rolZp _ => 0x26
  | .rlaZp _ => 0x27
  | .plp => 0x28
  | .andImm _ => 0x29
  | .rolAcc => 0x2A
  | .bitAbs _ => 0x2C
  | .andAbs _ => 0x2D
  | .rolAbs _ => 0x2E
  | .rlaAbs _ => 0x2F
  | .bmi _ => 0x30
  | .andIndY _ => 0x31
  | .rlaIndY _ => 0x33
  | .andZpX _ => 0x35
  | .rolZpX _ => 0x36
  | .rlaZpX _ => 0x37
  | .sec => 0x38
  | .andAbsY _ => 0x39
  | .rlaAbsY _ => 0x3B
  | .andAbsX _ => 0x3D
  | .rolAbsX _ => 0x3E
  | .rlaAbsX _ => 0x3F
  | .rti => 0x40
  | .eorIndX _ => 0x41
  | .sreIndX _ => 0x43
  | .eorZp _ => 0x45
  | .lsrZp _ => 0x46
  | .sreZp _ => 0x47
  | .pha => 0x48
  | .eorImm _ => 0x49
  | .lsrAcc => 0x4A
  | .alr _ => 0x4B
  | .jmpAbs _ => 0x4C
  | .eorAbs _ => 0x4D
  | .lsrAbs _ => 0x4E
  | .sreAbs _ => 0x4F
  | .bvc _ => 0x50
  | .eorIndY _ => 0x51
  | .sreIndY _ => 0x53
  | .eorZpX _ => 0x55
  | .lsrZpX _ => 0x56
  | .sreZpX _ => 0x57
  | .cli => 0x58
  | .eorAbsY _ => 0x59
  | .sreAbsY _ => 0x5B
  | .eorAbsX _ => 0x5D
  | .lsrAbsX _ => 0x5E
  | .sreAbsX _ => 0x5F
  | .rts => 0x60
  | .adcIndX _ => 0x61
  | .rraIndX _ => 0x63
  | .adcZp _ => 0x65
  | .rorZp _ => 0x66
  | .rraZp _ => 0x67
  | .pla => 0x68
  | .adcImm _ => 0x69
  | .rorAcc => 0x6A
  | .arr _ => 0x6B
  | .jmpInd _ => 0x6C
  | .adcAbs _ => 0x6D
  | .rorAbs _ => 0x6E
  | .rraAbs _ => 0x6F
  | .bvs _ => 0x70
  | .adcIndY _ => 0x71
  | .rraIndY _ => 0x73
  | .adcZpX _ => 0x75
  | .rorZpX _ => 0x76
  | .rraZpX _ => 0x77
  | .sei => 0x78
  | .adcAbsY _ => 0x79
  | .rraAbsY _ => 0x7B
  | .adcAbsX _ => 0x7D
  | .rorAbsX _ => 0x7E
  | .rraAbsX _ => 0x7F
  | .nopImm op _ => op
  | .staIndX _ => 0x81
  | .saxIndX _ => 0x83
  | .styZp _ => 0x84
  | .staZp _ => 0x85
  | .stxZp _ => 0x86
  | .saxZp _ => 0x87
  | .dey => 0x88
  | .txa => 0x8A
  | .ane _ => 0x8B
  | .styAbs _ => 0x8C
  | .staAbs _ => 0x8D
  | .stxAbs _ => 0x8E
  | .saxAbs _ => 0x8F
  | .bcc _ => 0x90
  | .staIndY _ => 0x91
  | .shaIndY _ => 0x93
  | .styZpX _ => 0x94
  | .staZpX _ => 0x95
  | .stxZpY _ => 0x96
  | .saxZpY _ => 0x97
  | .tya => 0x98
  | .staAbsY _ => 0x99
  | .txs => 0x9A
  | .tas _ => 0x9B
  | .shy _ => 0x9C
  | .staAbsX _ => 0x9D
  | .shx _ => 0x9E
  | .shaAbsY _ => 0x9F
  | .ldyImm _ => 0xA0
  | .ldaIndX _ => 0xA1
  | .ldxImm _ => 0xA2
  | .laxIndX _ => 0xA3
  | .ldyZp _ => 0xA4
  | .ldaZp _ => 0xA5
  | .ldxZp _ => 0xA6
  | .laxZp _ => 0xA7
  | .tay => 0xA8
  | .ldaImm _ => 0xA9
  | .tax => 0xAA
  | .lxa _ => 0xAB
  | .ldyAbs _ => 0xAC
  | .ldaAbs _ => 0xAD
  | .ldxAbs _ => 0xAE
  | .laxAbs _ => 0xAF
  | .bcs _ => 0xB0
  | .ldaIndY _ => 0xB1
  | .laxIndY _ => 0xB3
  | .ldyZpX _ => 0xB4
  | .ldaZpX _ => 0xB5
  | .ldxZpY _ => 0xB6
  | .laxZpY _ => 0xB7
  | .clv => 0xB8
  | .ldaAbsY _ => 0xB9
  | .tsx => 0xBA
  | .las _ => 0xBB
  | .ldyAbsX _ => 0xBC
  | .ldaAbsX _ => 0xBD
  | .ldxAbsY _ => 0xBE
  | .laxAbsY _ => 0xBF
  | .cpyImm _ => 0xC0
  | .cmpIndX _ => 0xC1
  | .dcpIndX _ => 0xC3
  | .cpyZp _ => 0xC4
  | .cmpZp _ => 0xC5
  | .decZp _ => 0xC6
  | .dcpZp _ => 0xC7
  | .iny => 0xC8
  | .cmpImm _ => 0xC9
  | .dex => 0xCA
  | .sbx _ => 0xCB
  | .cpyAbs _ => 0xCC
  | .cmpAbs _ => 0xCD
  | .decAbs _ => 0xCE
  | .dcpAbs _ => 0xCF
  | .bne _ => 0xD0
  | .cmpIndY _ => 0xD1
  | .dcpIndY _ => 0xD3
  | .cmpZpX _ => 0xD5
  | .decZpX _ => 0xD6
  | .dcpZpX _ => 0xD7
  | .cld => 0xD8
  | .cmpAbsY _ => 0xD9
  | .dcpAbsY _ => 0xDB
  | .cmpAbsX _ => 0xDD
  | .decAbsX _ => 0xDE
  | .dcpAbsX _ => 0xDF
  | .cpxImm _ => 0xE0
  | .sbcIndX _ => 0xE1
  | .iscIndX _ => 0xE3
  | .cpxZp _ => 0xE4
  | .sbcZp _ => 0xE5
  | .incZp _ => 0xE6
  | .iscZp _ => 0xE7
  | .inx => 0xE8
  | .sbcImm _ => 0xE9
  | .usbc _ => 0xEB
  | .cpxAbs _ => 0xEC
  | .sbcAbs _ => 0xED
  | .incAbs _ => 0xEE
  | .iscAbs _ => 0xEF
  | .beq _ => 0xF0
  | .sbcIndY _ => 0xF1
  | .iscIndY _ => 0xF3
  | .sbcZpX _ => 0xF5
  | .incZpX _ => 0xF6
  | .iscZpX _ => 0xF7
  | .sed => 0xF8
  | .sbcAbsY _ => 0xF9
  | .iscAbsY _ => 0xFB
  | .sbcAbsX _ => 0xFD
  | .incAbsX _ => 0xFE
  | .iscAbsX _ => 0xFF

/-- The operand of an instruction in its addressing mode (R54, R63). -/
def Instr.operand : Instr → Operand
  | .brk => .implied
  | .oraIndX a => .indirectX a
  | .jam _ => .implied
  | .sloIndX a => .indirectX a
  | .nopZp _ a => .zeroPage a
  | .oraZp a => .zeroPage a
  | .aslZp a => .zeroPage a
  | .sloZp a => .zeroPage a
  | .php => .implied
  | .oraImm i => .immediate i
  | .aslAcc => .accumulator
  | .anc _ i => .immediate i
  | .nopAbs w => .absolute w
  | .oraAbs w => .absolute w
  | .aslAbs w => .absolute w
  | .sloAbs w => .absolute w
  | .bpl o => .relative o
  | .oraIndY a => .indirectY a
  | .sloIndY a => .indirectY a
  | .nopZpX _ a => .zeroPageX a
  | .oraZpX a => .zeroPageX a
  | .aslZpX a => .zeroPageX a
  | .sloZpX a => .zeroPageX a
  | .clc => .implied
  | .oraAbsY w => .absoluteY w
  | .nop _ => .implied
  | .sloAbsY w => .absoluteY w
  | .nopAbsX _ w => .absoluteX w
  | .oraAbsX w => .absoluteX w
  | .aslAbsX w => .absoluteX w
  | .sloAbsX w => .absoluteX w
  | .jsr w => .absolute w
  | .andIndX a => .indirectX a
  | .rlaIndX a => .indirectX a
  | .bitZp a => .zeroPage a
  | .andZp a => .zeroPage a
  | .rolZp a => .zeroPage a
  | .rlaZp a => .zeroPage a
  | .plp => .implied
  | .andImm i => .immediate i
  | .rolAcc => .accumulator
  | .bitAbs w => .absolute w
  | .andAbs w => .absolute w
  | .rolAbs w => .absolute w
  | .rlaAbs w => .absolute w
  | .bmi o => .relative o
  | .andIndY a => .indirectY a
  | .rlaIndY a => .indirectY a
  | .andZpX a => .zeroPageX a
  | .rolZpX a => .zeroPageX a
  | .rlaZpX a => .zeroPageX a
  | .sec => .implied
  | .andAbsY w => .absoluteY w
  | .rlaAbsY w => .absoluteY w
  | .andAbsX w => .absoluteX w
  | .rolAbsX w => .absoluteX w
  | .rlaAbsX w => .absoluteX w
  | .rti => .implied
  | .eorIndX a => .indirectX a
  | .sreIndX a => .indirectX a
  | .eorZp a => .zeroPage a
  | .lsrZp a => .zeroPage a
  | .sreZp a => .zeroPage a
  | .pha => .implied
  | .eorImm i => .immediate i
  | .lsrAcc => .accumulator
  | .alr i => .immediate i
  | .jmpAbs w => .absolute w
  | .eorAbs w => .absolute w
  | .lsrAbs w => .absolute w
  | .sreAbs w => .absolute w
  | .bvc o => .relative o
  | .eorIndY a => .indirectY a
  | .sreIndY a => .indirectY a
  | .eorZpX a => .zeroPageX a
  | .lsrZpX a => .zeroPageX a
  | .sreZpX a => .zeroPageX a
  | .cli => .implied
  | .eorAbsY w => .absoluteY w
  | .sreAbsY w => .absoluteY w
  | .eorAbsX w => .absoluteX w
  | .lsrAbsX w => .absoluteX w
  | .sreAbsX w => .absoluteX w
  | .rts => .implied
  | .adcIndX a => .indirectX a
  | .rraIndX a => .indirectX a
  | .adcZp a => .zeroPage a
  | .rorZp a => .zeroPage a
  | .rraZp a => .zeroPage a
  | .pla => .implied
  | .adcImm i => .immediate i
  | .rorAcc => .accumulator
  | .arr i => .immediate i
  | .jmpInd w => .indirect w
  | .adcAbs w => .absolute w
  | .rorAbs w => .absolute w
  | .rraAbs w => .absolute w
  | .bvs o => .relative o
  | .adcIndY a => .indirectY a
  | .rraIndY a => .indirectY a
  | .adcZpX a => .zeroPageX a
  | .rorZpX a => .zeroPageX a
  | .rraZpX a => .zeroPageX a
  | .sei => .implied
  | .adcAbsY w => .absoluteY w
  | .rraAbsY w => .absoluteY w
  | .adcAbsX w => .absoluteX w
  | .rorAbsX w => .absoluteX w
  | .rraAbsX w => .absoluteX w
  | .nopImm _ i => .immediate i
  | .staIndX a => .indirectX a
  | .saxIndX a => .indirectX a
  | .styZp a => .zeroPage a
  | .staZp a => .zeroPage a
  | .stxZp a => .zeroPage a
  | .saxZp a => .zeroPage a
  | .dey => .implied
  | .txa => .implied
  | .ane i => .immediate i
  | .styAbs w => .absolute w
  | .staAbs w => .absolute w
  | .stxAbs w => .absolute w
  | .saxAbs w => .absolute w
  | .bcc o => .relative o
  | .staIndY a => .indirectY a
  | .shaIndY a => .indirectY a
  | .styZpX a => .zeroPageX a
  | .staZpX a => .zeroPageX a
  | .stxZpY a => .zeroPageY a
  | .saxZpY a => .zeroPageY a
  | .tya => .implied
  | .staAbsY w => .absoluteY w
  | .txs => .implied
  | .tas w => .absoluteY w
  | .shy w => .absoluteX w
  | .staAbsX w => .absoluteX w
  | .shx w => .absoluteY w
  | .shaAbsY w => .absoluteY w
  | .ldyImm i => .immediate i
  | .ldaIndX a => .indirectX a
  | .ldxImm i => .immediate i
  | .laxIndX a => .indirectX a
  | .ldyZp a => .zeroPage a
  | .ldaZp a => .zeroPage a
  | .ldxZp a => .zeroPage a
  | .laxZp a => .zeroPage a
  | .tay => .implied
  | .ldaImm i => .immediate i
  | .tax => .implied
  | .lxa i => .immediate i
  | .ldyAbs w => .absolute w
  | .ldaAbs w => .absolute w
  | .ldxAbs w => .absolute w
  | .laxAbs w => .absolute w
  | .bcs o => .relative o
  | .ldaIndY a => .indirectY a
  | .laxIndY a => .indirectY a
  | .ldyZpX a => .zeroPageX a
  | .ldaZpX a => .zeroPageX a
  | .ldxZpY a => .zeroPageY a
  | .laxZpY a => .zeroPageY a
  | .clv => .implied
  | .ldaAbsY w => .absoluteY w
  | .tsx => .implied
  | .las w => .absoluteY w
  | .ldyAbsX w => .absoluteX w
  | .ldaAbsX w => .absoluteX w
  | .ldxAbsY w => .absoluteY w
  | .laxAbsY w => .absoluteY w
  | .cpyImm i => .immediate i
  | .cmpIndX a => .indirectX a
  | .dcpIndX a => .indirectX a
  | .cpyZp a => .zeroPage a
  | .cmpZp a => .zeroPage a
  | .decZp a => .zeroPage a
  | .dcpZp a => .zeroPage a
  | .iny => .implied
  | .cmpImm i => .immediate i
  | .dex => .implied
  | .sbx i => .immediate i
  | .cpyAbs w => .absolute w
  | .cmpAbs w => .absolute w
  | .decAbs w => .absolute w
  | .dcpAbs w => .absolute w
  | .bne o => .relative o
  | .cmpIndY a => .indirectY a
  | .dcpIndY a => .indirectY a
  | .cmpZpX a => .zeroPageX a
  | .decZpX a => .zeroPageX a
  | .dcpZpX a => .zeroPageX a
  | .cld => .implied
  | .cmpAbsY w => .absoluteY w
  | .dcpAbsY w => .absoluteY w
  | .cmpAbsX w => .absoluteX w
  | .decAbsX w => .absoluteX w
  | .dcpAbsX w => .absoluteX w
  | .cpxImm i => .immediate i
  | .sbcIndX a => .indirectX a
  | .iscIndX a => .indirectX a
  | .cpxZp a => .zeroPage a
  | .sbcZp a => .zeroPage a
  | .incZp a => .zeroPage a
  | .iscZp a => .zeroPage a
  | .inx => .implied
  | .sbcImm i => .immediate i
  | .usbc i => .immediate i
  | .cpxAbs w => .absolute w
  | .sbcAbs w => .absolute w
  | .incAbs w => .absolute w
  | .iscAbs w => .absolute w
  | .beq o => .relative o
  | .sbcIndY a => .indirectY a
  | .iscIndY a => .indirectY a
  | .sbcZpX a => .zeroPageX a
  | .incZpX a => .zeroPageX a
  | .iscZpX a => .zeroPageX a
  | .sed => .implied
  | .sbcAbsY w => .absoluteY w
  | .iscAbsY w => .absoluteY w
  | .sbcAbsX w => .absoluteX w
  | .incAbsX w => .absoluteX w
  | .iscAbsX w => .absoluteX w

/-- The bytes of an instruction: its opcode byte, then its operand bytes (R53, R54). -/
def encode (i : Instr) : List Byte := i.opcode :: i.operand.bytes

/-- The table entry of an instruction (R61). -/
def Instr.desc (i : Instr) : Descriptor := descriptor i.opcode

/-- The mnemonic of an instruction, as its table entry names it. -/
def Instr.mnemonic (i : Instr) : Mnemonic := i.desc.mnemonic

/-- The length of an instruction in bytes (R56). -/
def Instr.length (i : Instr) : Nat := i.desc.length

end Sys2Proof
end

