-- ==== Sys2Proof/Machine/State.lean ====
section
/-! DEFINITION. The machine's state (spec/10_state.md R29), the reasons a step can stop, and the state after reset
(R30; spec/70_reset_and_hazards.md R221). -/

namespace Sys2Proof.Machine

/-- The 65,536 bytes of R34 as (address, byte) pairs in one canonical form (`Memory.wf`): addresses strictly rising,
no entry equal to what an unlisted address reads as. -/
abbrev Memory := List Host.Cell

/-- The core raises no fault: "Memory reads/writes never fail", "'invalid opcode' cannot occur" (R10, R108, R194).
So there is no fault to name. -/
inductive Fault where
  deriving DecidableEq, Repr

/-- Why a step has no meaning. All are safe: the run stops where the spec gives no effect, and the step leaves no new
state (R110, log 7). -/
inductive Refusal where
  /-- An instruction of the table that the model has not reached. Raised by an arm of `exec` only; safe. -/
  | notModelled (mnemonic : String)
  /-- `UndocumentedRefused(op)`: raised by every undocumented opcode outside the halt set under
  `UNDOC_POLICY = refuse` (R170), and by a JAM byte taken out of `HALT_OPCODES` (R172); safe. -/
  | undocumentedRefused (op : Byte)
  /-- `UnstableStore(op)`: raised by SHA, SHX, SHY and TAS when the indexing crosses a page (R189 to R192); safe. -/
  | unstableStore (op : Byte)
  /-- `DecimalARR`: raised by ARR with D = 1 under `DECIMAL_MODE = nmos` (R184); safe. -/
  | decimalArr
  deriving DecidableEq, Repr

/-- The state of the core: the fields of R29, and after them the model's own. -/
structure State where
  /-- accumulator (R13) -/
  a : Byte
  /-- index register X (R13) -/
  x : Byte
  /-- index register Y (R13) -/
  y : Byte
  /-- stack pointer (R16): the stack byte it designates is at 0x0100 + SP -/
  sp : Byte
  /-- program counter (R15) -/
  pc : Word
  /-- flag N, bit 7 of P (R17) -/
  n : Bool
  /-- flag V, bit 6 of P (R17) -/
  v : Bool
  /-- the stored B, bit 4 of P (R20) -/
  b : Bool
  /-- flag D, bit 3 of P (R17) -/
  d : Bool
  /-- flag I, bit 2 of P (R17) -/
  i : Bool
  /-- flag Z, bit 1 of P (R17) -/
  z : Bool
  /-- flag C, bit 0 of P (R17) -/
  c : Bool
  /-- memory (R27, R34) -/
  mem : Memory
  /-- the cycle counter, unbounded (R22) -/
  cycles : Nat
  /-- the halt latch (R23) -/
  halted : Bool
  /-- the latched NMI edge (R24) -/
  nmiPending : Bool
  /-- the NMI level sampled at the previous step boundary; true is active (R24) -/
  nmiPrev : Bool
  /-- the value of I that IRQ polling uses at the next step boundary (R25) -/
  iPoll : Bool
  /-- model's own: the level the host holds the IRQ input at; true is active (R26, log 5) -/
  irqIn : Bool
  /-- model's own: the level the host holds the NMI input at; true is active (R26, log 5) -/
  nmiIn : Bool
  /-- model's own: the parameters of R6; no step writes them (log 4) -/
  params : Params
  /-- model's own: how many MAGIC values have been drawn (R187, R188, R109, log 6) -/
  draws : Nat
  deriving DecidableEq, Repr

/-- The state right after power-on reset under R6's default parameters, with nothing listed in memory. SP, I, B, the
latches and the counter are R30's. PC is `MemRead(0xFFFC, 2)` of that memory, which is 0x0000. A, X, Y, N, V, D, Z, C
and memory are launch arguments in R30: zero here (logs 1, 2, 3). It equals `powerOnReset` on these arguments. -/
def State.reset : State where
  a := 0
  x := 0
  y := 0
  sp := 0xFD
  pc := 0
  n := false
  v := false
  b := false
  d := false
  i := true
  z := false
  c := false
  mem := []
  cycles := 0
  halted := false
  nmiPending := false
  nmiPrev := false
  iPoll := true
  irqIn := false
  nmiIn := false
  params := Params.default
  draws := 0

end Sys2Proof.Machine
end

