-- ==== Sys2Proof/Machine/Flags.lean ====
section
/-! DEFINITION. The status byte, the flag-update logic and the ALU (spec/10_state.md R17; spec/41_dispatch.md R95 to
R105). -/

namespace Sys2Proof.Machine

/-! ## The status byte -/

/-- `N<<7 | V<<6 | 0x20 | bit4<<4 | D<<3 | I<<2 | Z<<1 | C`: P with bit 4 as given (R17, R126, R161, R198). Bit 5 is
1 always. -/
def State.statusByte (s : State) (bit4 : Bool) : Byte :=
  BitVec.ofBool s.n ++ BitVec.ofBool s.v ++ 1#1 ++ BitVec.ofBool bit4 ++
    BitVec.ofBool s.d ++ BitVec.ofBool s.i ++ BitVec.ofBool s.z ++ BitVec.ofBool s.c

/-- P as a byte, with the stored B in bit 4 (R17, R20). -/
def State.p (s : State) : Byte := s.statusByte s.b

/-- Load N, V, D, I, Z, C from a pulled status byte; its bits 5 and 4 are ignored (R128, R160). -/
def State.loadStatus (s : State) (p : Byte) : State :=
  { s with n := p.getLsbD 7, v := p.getLsbD 6, d := p.getLsbD 3, i := p.getLsbD 2, z := p.getLsbD 1, c := p.getLsbD 0 }

/-- `SetNZ(v)`: N is bit 7 of v, Z says that v is 0 (R97). -/
def State.setNZ (s : State) (v : Byte) : State :=
  { s with n := v.getLsbD 7, z := v == 0 }

/-! ## The adder -/

/-- A result of the adder with the four flags it sets (R99, R101, R103). -/
structure AluResult where
  value : Byte
  n : Bool
  v : Bool
  z : Bool
  c : Bool
  deriving DecidableEq, Repr

/-- `AddBin(a, m, c)` (R99): the exact sum, its low byte, the carry out of bit 7, and signed overflow, "operands' sign
bits agree and differ from the result's sign bit". -/
def addBin (a m : Byte) (carry : Bool) : AluResult :=
  let s := a.toNat + m.toNat + carry.toNat
  let r := BitVec.ofNat 8 s
  { value := r
    n := r.getLsbD 7
    v := ((a ^^^ r) &&& (m ^^^ r) &&& 0x80) != 0
    z := r == 0
    c := decide (s > 0xFF) }

/-- The low digit's sum of `AdcDec`, corrected to decimal (R101's `lo`). -/
def adcDecLow (a m : Byte) (carry : Bool) : Nat :=
  let lo := a.toNat % 16 + m.toNat % 16 + carry.toNat
  if lo ≥ 0x0A then (lo + 0x06) % 16 + 0x10 else lo

/-- `AdcDec(a, m, c)` (R101): N and V come from the sum before its high digit is corrected, Z from the binary sum, C
from the corrected sum. -/
def adcDec (a m : Byte) (carry : Bool) : AluResult :=
  let s := (a.toNat / 16 * 16) + (m.toNat / 16 * 16) + adcDecLow a m carry
  let t := if s ≥ 0xA0 then s + 0x60 else s
  { value := BitVec.ofNat 8 t
    n := s.testBit 7
    v := (~~~(a ^^^ m) &&& (a ^^^ BitVec.ofNat 8 s) &&& 0x80) != 0
    z := (a.toNat + m.toNat + carry.toNat) % 256 == 0
    c := decide (t ≥ 0x100) }

/-- The low digit's difference of `SbcDec`, corrected to decimal (R103's `lo`, an exact integer). -/
def sbcDecLow (a m : Byte) (carry : Bool) : Int :=
  let lo : Int := (a.toNat % 16 : Nat) - (m.toNat % 16 : Nat) + carry.toNat - 1
  if lo < 0 then (lo - 0x06) % 16 - 0x10 else lo

/-- `SbcDec(a, m, c)` (R103): the decimal difference, with the flags of the binary subtraction. -/
def sbcDec (a m : Byte) (carry : Bool) : AluResult :=
  let s : Int := (a.toNat / 16 * 16 : Nat) - (m.toNat / 16 * 16 : Nat) + sbcDecLow a m carry
  let t := if s < 0 then s - 0x60 else s
  { addBin a (~~~m) carry with value := BitVec.ofInt 8 t }

/-- Whether ADC, SBC, RRA, ISC, USBC and ARR are in decimal mode: D = 1 and `DECIMAL_MODE = nmos` (R100 to R105). -/
def State.decimal (s : State) : Bool := s.d && s.params.decimalMode == .nmos

/-- Write an adder's result to A and its flags to N, V, Z, C (R100). -/
def State.setAlu (s : State) (r : AluResult) : State :=
  { s with a := r.value, n := r.n, v := r.v, z := r.z, c := r.c }

/-- `AdcOp(m)`: `A <- AddBin(A, m, C)` (R100) or `A <- AdcDec(A, m, C)` (R101). -/
def State.adcOp (s : State) (m : Byte) : State :=
  s.setAlu (if s.decimal then adcDec s.a m s.c else addBin s.a m s.c)

/-- `SbcOp(m)`: `A <- AddBin(A, ~m, C)` (R102) or `A <- SbcDec(A, m, C)` (R103). -/
def State.sbcOp (s : State) (m : Byte) : State :=
  s.setAlu (if s.decimal then sbcDec s.a m s.c else addBin s.a (~~~m) s.c)

/-- `Compare(r, m)`: C says that r ≥ m unsigned; N and Z are those of r − m (R104). -/
def State.compare (s : State) (r m : Byte) : State :=
  { s with c := decide (m.toNat ≤ r.toNat) }.setNZ (r - m)

/-! ## Shifts and rotates -/

/-- A shift's result and the bit shifted out (R98). -/
structure ShiftResult where
  value : Byte
  out : Bool
  deriving DecidableEq, Repr

/-- One place left, bit 0 taking `into`, bit 7 shifted out (R144, R146). -/
def shiftLeft (m : Byte) (into : Bool) : ShiftResult :=
  ⟨m <<< 1 ||| (BitVec.ofBool into).zeroExtend 8, m.getLsbD 7⟩

/-- One place right, bit 7 taking `into`, bit 0 shifted out (R145, R147). -/
def shiftRight (m : Byte) (into : Bool) : ShiftResult :=
  ⟨m >>> 1 ||| (BitVec.ofBool into).zeroExtend 8 <<< 7, m.getLsbD 0⟩

end Sys2Proof.Machine
end

