-- ==== Sys2Proof/Machine/Ops.lean ====
section
/-! DEFINITION. The named operations over memory and registers: memory (spec/20_memory.md R34 to R39), the stack (R41
to R44), entering a handler through a vector and returning from it (spec/46_control_flow.md R160, R161;
spec/60_exceptions.md R198), and polling the interrupt inputs (R197). -/

namespace Sys2Proof.Machine

/-! ## Memory -/

/-- What an address that memory does not list reads as: the loader's zero fill, "Every other byte is 0x00 unless the
launch supplies it" (R225, log 1). -/
def unlistedByte : Byte := 0

/-- The byte at an address (R36). -/
def Memory.read : Memory → Nat → Byte
  | [], _ => unlistedByte
  | (k, b) :: m, a => if k = a then b else Memory.read m a

/-- Put an entry in front, unless it says what an unlisted address reads as anyway. -/
def Memory.consCell (a : Nat) (v : Byte) (m : Memory) : Memory :=
  if v = unlistedByte then m else (a, v) :: m

/-- Set the byte at an address and no other (R37), keeping the canonical form. -/
def Memory.write : Memory → Nat → Byte → Memory
  | [], a, v => Memory.consCell a v []
  | (k, b) :: m, a, v =>
    if a < k then Memory.consCell a v ((k, b) :: m)
    else if a = k then Memory.consCell a v m
    else (k, b) :: Memory.write m a v

/-- The canonical form: addresses strictly rising and inside the 16-bit space, no entry that says what an unlisted
address reads as. -/
abbrev Memory.wf (m : Memory) : Prop :=
  m.Pairwise (fun c e => c.1 < e.1) ∧ ∀ c ∈ m, c.1 < 65536 ∧ c.2 ≠ unlistedByte

/-- `MemRead(addr, 1)` (R36). An address is a `Word`, so it is "always masked into the 16-bit space" (R35). -/
def State.read (s : State) (addr : Word) : Byte := Memory.read s.mem addr.toNat

/-- `MemWrite(addr, 1, v)` (R37). -/
def State.write (s : State) (addr : Word) (v : Byte) : State :=
  { s with mem := Memory.write s.mem addr.toNat v }

/-- `MemRead(addr, 2)`: low byte at `addr`, high byte at `addr + 1`, wrapping at 0xFFFF (R38). -/
def State.readWord (s : State) (addr : Word) : Word := joinBytes (s.read (addr + 1)) (s.read addr)

/-- `MemWrite(addr, 2, w)`: the low byte, then the high byte at the next address (R39). The loader's. -/
def Memory.writeWord (m : Memory) (addr : Word) (w : Word) : Memory :=
  (m.write addr.toNat (lowByte w)).write (addr + 1).toNat (highByte w)

/-- Bytes in a row from an address on, which wraps (R225). -/
def Memory.writeBytes (m : Memory) (addr : Word) : List Byte → Memory
  | [] => m
  | b :: bs => (m.write addr.toNat b).writeBytes (addr + 1) bs

/-- `mem[addr + k]` for k below a count (R218). -/
def State.readBytes (s : State) (addr : Word) : Nat → List Byte
  | 0 => []
  | n + 1 => s.read addr :: s.readBytes (addr + 1) n

/-! ## The stack -/

/-- The stack byte that a value of SP designates: 0x0100 + SP (R41). -/
def stackAddress (sp : Byte) : Word := joinBytes 0x01 sp

/-- The address that a push writes: 0x0100 + (SP − 1) under `doc`, 0x0100 + SP under `nmos` (R42). -/
def State.pushAddress (s : State) : Word :=
  match s.params.stackConvention with
  | .doc => stackAddress (s.sp - 1)
  | .nmos => stackAddress s.sp

/-- `Push(v)` (R42): SP goes down by 1 mod 256 (R44) and the byte goes where the convention says. -/
def State.push (s : State) (v : Byte) : State :=
  { s.write s.pushAddress v with sp := s.sp - 1 }

/-- The address that a pull reads: 0x0100 + SP under `doc`, 0x0100 + (SP + 1) under `nmos` (R43). -/
def State.pullAddress (s : State) : Word :=
  match s.params.stackConvention with
  | .doc => stackAddress s.sp
  | .nmos => stackAddress (s.sp + 1)

/-- The byte that `Pull()` returns (R43). -/
def State.pulled (s : State) : Byte := s.read s.pullAddress

/-- The state after `Pull()`: SP goes up by 1 mod 256 (R43, R44). -/
def State.afterPull (s : State) : State := { s with sp := s.sp + 1 }

/-- Push an address, high byte first, so that it lies low byte at the lower address (R40, R158). -/
def State.pushWord (s : State) (w : Word) : State := (s.push (highByte w)).push (lowByte w)

/-- The address that two pulls return, low byte first (R159, R160). -/
def State.pulledWord (s : State) : Word := joinBytes s.afterPull.pulled s.pulled

/-- The state after those two pulls. -/
def State.afterPullWord (s : State) : State := s.afterPull.afterPull

/-! ## Entering a handler and returning from it -/

/-- The NMI vector's address (R47, R195). -/
def nmiVector : Word := 0xFFFA

/-- The RESET vector's address (R47, R195, R224). -/
def resetVector : Word := 0xFFFC

/-- The vector's address that IRQ and BRK share (R47, R195, R201). -/
def irqVector : Word := 0xFFFE

/-- Taking BRK, IRQ or NMI: push the return address and the status with bit 4 as given, set I, load PC from the vector
(R161, R198). D, the stored B, A, X and Y are kept. -/
def State.enterHandler (s : State) (returnAddress : Word) (bit4 : Bool) (vector : Word) : State :=
  let s1 := (s.pushWord returnAddress).push (s.statusByte bit4)
  { s1 with i := true, pc := s1.readWord vector }

/-- Returning from a handler: pull the status, then the address, to which nothing is added (R160, R207). -/
def State.leaveHandler (s : State) : State :=
  let s1 := s.afterPull.loadStatus s.pulled
  { s1.afterPullWord with pc := s1.pulledWord }

/-! ## Interrupt inputs -/

/-- The two inputs that a step boundary can answer with an entry (R195). -/
inductive InterruptKind where
  | nmi
  | irq
  deriving DecidableEq, Repr

def InterruptKind.vector : InterruptKind → Word
  | .nmi => nmiVector
  | .irq => irqVector

/-- An input's level as the core reads it: inactive under `INTERRUPT_INPUTS = tied_inactive` (R26, R197). -/
def State.sampled (s : State) (level : Bool) : Bool := s.params.interruptInputs == .driven && level

/-- The writes of `InterruptCheck()`: latch an inactive-to-active change of NMI, remember its level (R197, R203). -/
def State.pollInputs (s : State) : State :=
  { s with
    nmiPending := s.nmiPending || (s.sampled s.nmiIn && !s.nmiPrev)
    nmiPrev := s.sampled s.nmiIn }

/-- What `InterruptCheck()` returns after its writes: NMI before IRQ (R196), IRQ only with `i_poll = 0` (R204, R205). -/
def State.pendingInterrupt (s : State) : Option InterruptKind :=
  if s.nmiPending then some .nmi
  else if s.sampled s.irqIn && !s.iPoll then some .irq
  else none

/-- `InterruptEntry(kind)` (R198 to R200): one step of its own, 7 cycles. -/
def State.interruptEntry (s : State) (kind : InterruptKind) : State :=
  let s1 := s.enterHandler s.pc false kind.vector
  { s1 with
    iPoll := true
    nmiPending := match kind with
      | .nmi => false
      | .irq => s1.nmiPending
    cycles := s1.cycles + 7 }

end Sys2Proof.Machine
end

