-- ==== Sys2Proof/Machine/Operands.lean ====
section
/-! DEFINITION. The addressing-mode resolver and the operand primitives (spec/40_addressing.md R71 to R85). -/

namespace Sys2Proof.Machine

/-- The resolver's output `src` (R84). -/
inductive Src where
  /-- a literal byte -/
  | imm (i : Byte)
  /-- a byte of memory at an effective address -/
  | addr (ea : Word)
  /-- a branch target -/
  | target (t : Word)
  /-- the accumulator -/
  | acc
  /-- no operand -/
  | none
  deriving DecidableEq, Repr

/-- `bool(high(ea) != high(base))`: whether indexing left the base's page (R77, R85). -/
def crosses (base ea : Word) : Bool := highByte ea != highByte base

/-- The word at a pointer in the zero page, both bytes read within it (R80, R81). -/
def State.zeroPagePointer (s : State) (p : Byte) : Word :=
  joinBytes (s.read (zext16 (p + 1))) (s.read (zext16 p))

/-- The word at JMP's pointer: the high byte comes from the same page, "the documented hardware bug" (R79). -/
def State.jumpPointer (s : State) (ptr : Word) : Word :=
  joinBytes (s.read (joinBytes (highByte ptr) (lowByte ptr + 1))) (s.read ptr)

/-- The resolver (R71 to R83). PC has already advanced past the operand bytes, which the operand carries. It reads
pointers from memory and writes nothing. -/
def State.resolve (s : State) : Operand → Src
  | .implied => .none
  | .accumulator => .acc
  | .immediate i => .imm i
  | .zeroPage a => .addr (zext16 a)
  | .zeroPageX a => .addr (zext16 (a + s.x))
  | .zeroPageY a => .addr (zext16 (a + s.y))
  | .absolute w => .addr w
  | .absoluteX w => .addr (w + zext16 s.x)
  | .absoluteY w => .addr (w + zext16 s.y)
  | .indirect w => .addr (s.jumpPointer w)
  | .indirectX a => .addr (s.zeroPagePointer (a + s.x))
  | .indirectY a => .addr (s.zeroPagePointer a + zext16 s.y)
  | .relative o => .target (s.pc + sext16 o)

/-- The resolver's page-cross bit: "Only Absolute,X, Absolute,Y and (Indirect),Y report it" (R85). -/
def State.pageCross (s : State) : Operand → Bool
  | .absoluteX w => crosses w (w + zext16 s.x)
  | .absoluteY w => crosses w (w + zext16 s.y)
  | .indirectY a => crosses (s.zeroPagePointer a) (s.zeroPagePointer a + zext16 s.y)
  | _ => false

/-- `Load()` (R84). "`Load` is never applied to `Target` or `None`" (log 11). -/
def State.load (s : State) : Src → Byte
  | .imm i => i
  | .acc => s.a
  | .addr ea => s.read ea
  | .target _ | .none => 0

/-- `Store(v)` (R84). It is never applied to `Imm`, `Target` or `None` (log 11). -/
def State.store (s : State) (src : Src) (v : Byte) : State :=
  match src with
  | .acc => { s with a := v }
  | .addr ea => s.write ea v
  | .imm _ | .target _ | .none => s

/-- `ea` in `Addr(ea)`, `t` in `Target(t)` (R84). It is never asked of another source (log 11). -/
def Src.address : Src → Word
  | .addr ea => ea
  | .target t => t
  | .imm _ | .acc | .none => 0

end Sys2Proof.Machine
end

