-- ==== Sys2Proof/Machine/Execute.lean ====
section
/-! DEFINITION. ExecuteInstruction(): what every instruction has in common (spec/41_dispatch.md R88 to R94, R106;
spec/60_exceptions.md R206; spec/48_undocumented.md R170, R172). A family file gives each instruction its handler. -/

namespace Sys2Proof.Machine

/-- What a handler is given (R89, R90): the address of the opcode byte, the opcode, and the resolver's output. PC
already holds the address of the next instruction. -/
structure Resolved where
  pc0 : Word
  op : Byte
  src : Src
  pcross : Bool
  deriving DecidableEq, Repr

/-- What a handler gives back (R90): the state with `branch_extra`, or a refusal (R110). -/
inductive Handled where
  | ran (s : State) (branchExtra : Nat)
  | refuse (r : Refusal)
  deriving DecidableEq, Repr

/-- What executing an instruction answers. -/
abbrev Result := Host.Outcome State Fault Refusal

/-- An instruction's handler. -/
abbrev Handler := Resolved → State → Handled

/-- `Cost(desc, pcross, branch_extra)` (R92, R93). -/
def cost (d : Descriptor) (pcross : Bool) (branchExtra : Nat) : Nat :=
  d.baseCycles + (if d.pageCrossPlus1 && pcross then 1 else 0) + branchExtra

/-- The instructions whose change of I polling sees one instruction late (R206). -/
def delaysIPoll (m : Mnemonic) : Bool := m == .CLI || m == .SEI || m == .PLP

/-- R91: `UpdateIPoll` with the I of the step's start (R206), and the cost added to the counter (R106). -/
def State.complete (s : State) (d : Descriptor) (iStart : Bool) (pcross : Bool) (branchExtra : Nat) : State :=
  { s with
    iPoll := if delaysIPoll d.mnemonic then iStart else s.i
    cycles := s.cycles + cost d pcross branchExtra }

/-- PC past the instruction (R88, R89): `pc0 +16 desc.length`. -/
def State.advance (s : State) (i : Instr) : State := { s with pc := s.pc + BitVec.ofNat 16 i.length }

/-- The halt test of the fetch (R88, R172): `halted <- 1` and PC one past the opcode byte, whatever the byte's length
(C12); nothing else, no cycles. -/
def State.halt (s : State) : State := { s with halted := true, pc := s.pc + 1 }

/-- ExecuteInstruction() for the instruction at PC: the halt test, the policy on undocumented opcodes (R170), the
resolver, the handler, and the step's completion. -/
def runInstr (i : Instr) (h : Handler) (s : State) : Result :=
  if i.opcode ∈ s.params.haltOpcodes then .next s.halt
  else if !i.desc.documented && s.params.undocPolicy == .refuse then .refused (.undocumentedRefused i.opcode)
  else
    let s1 := s.advance i
    let pcross := s1.pageCross i.operand
    match h ⟨s.pc, i.opcode, s1.resolve i.operand, pcross⟩ s1 with
    | .refuse r => .refused r
    | .ran s2 branchExtra => .next (s2.complete i.desc s.i pcross branchExtra)

/-- The instruction at PC: the opcode byte and its operand bytes as memory stands, all read before anything is
written (R51, R88). Addresses wrap at 0xFFFF (D16). -/
def State.fetch (s : State) : Instr := instrOfBytes (s.read s.pc) (s.read (s.pc + 1)) (s.read (s.pc + 2))

end Sys2Proof.Machine
end

