-- ==== Sys2Proof/Machine/Arithmetic.lean ====
section
/-! DEFINITION. Arithmetic, logic, compare and increment instructions (spec/44_arithmetic_logic.md R129 to R143):
a handler for each mnemonic, and for each row of the opcode table its own meaning. -/

namespace Sys2Proof.Machine

/-! ### ADC -/

/-- ADC (R129): `AdcOp(M)`. -/
def handleAdc : Handler := fun r s => .ran (s.adcOp (s.load r.src)) 0

def execAdcIndX (a : Byte) (s : State) : Result := runInstr (.adcIndX a) handleAdc s
def execAdcZp (a : Byte) (s : State) : Result := runInstr (.adcZp a) handleAdc s
def execAdcImm (i : Byte) (s : State) : Result := runInstr (.adcImm i) handleAdc s
def execAdcAbs (w : Word) (s : State) : Result := runInstr (.adcAbs w) handleAdc s
def execAdcIndY (a : Byte) (s : State) : Result := runInstr (.adcIndY a) handleAdc s
def execAdcZpX (a : Byte) (s : State) : Result := runInstr (.adcZpX a) handleAdc s
def execAdcAbsY (w : Word) (s : State) : Result := runInstr (.adcAbsY w) handleAdc s
def execAdcAbsX (w : Word) (s : State) : Result := runInstr (.adcAbsX w) handleAdc s

/-! ### SBC -/

/-- SBC (R130): `SbcOp(M)`. -/
def handleSbc : Handler := fun r s => .ran (s.sbcOp (s.load r.src)) 0

def execSbcIndX (a : Byte) (s : State) : Result := runInstr (.sbcIndX a) handleSbc s
def execSbcZp (a : Byte) (s : State) : Result := runInstr (.sbcZp a) handleSbc s
def execSbcImm (i : Byte) (s : State) : Result := runInstr (.sbcImm i) handleSbc s
def execSbcAbs (w : Word) (s : State) : Result := runInstr (.sbcAbs w) handleSbc s
def execSbcIndY (a : Byte) (s : State) : Result := runInstr (.sbcIndY a) handleSbc s
def execSbcZpX (a : Byte) (s : State) : Result := runInstr (.sbcZpX a) handleSbc s
def execSbcAbsY (w : Word) (s : State) : Result := runInstr (.sbcAbsY w) handleSbc s
def execSbcAbsX (w : Word) (s : State) : Result := runInstr (.sbcAbsX w) handleSbc s

/-! ### AND -/

/-- AND (R131): `A <- A & M; SetNZ(A)`. -/
def handleAnd : Handler := fun r s => .ran ({ s with a := s.a &&& s.load r.src }.setNZ (s.a &&& s.load r.src)) 0

def execAndIndX (a : Byte) (s : State) : Result := runInstr (.andIndX a) handleAnd s
def execAndZp (a : Byte) (s : State) : Result := runInstr (.andZp a) handleAnd s
def execAndImm (i : Byte) (s : State) : Result := runInstr (.andImm i) handleAnd s
def execAndAbs (w : Word) (s : State) : Result := runInstr (.andAbs w) handleAnd s
def execAndIndY (a : Byte) (s : State) : Result := runInstr (.andIndY a) handleAnd s
def execAndZpX (a : Byte) (s : State) : Result := runInstr (.andZpX a) handleAnd s
def execAndAbsY (w : Word) (s : State) : Result := runInstr (.andAbsY w) handleAnd s
def execAndAbsX (w : Word) (s : State) : Result := runInstr (.andAbsX w) handleAnd s

/-! ### ORA -/

/-- ORA (R132): `A <- A | M; SetNZ(A)`. -/
def handleOra : Handler := fun r s => .ran ({ s with a := s.a ||| s.load r.src }.setNZ (s.a ||| s.load r.src)) 0

def execOraIndX (a : Byte) (s : State) : Result := runInstr (.oraIndX a) handleOra s
def execOraZp (a : Byte) (s : State) : Result := runInstr (.oraZp a) handleOra s
def execOraImm (i : Byte) (s : State) : Result := runInstr (.oraImm i) handleOra s
def execOraAbs (w : Word) (s : State) : Result := runInstr (.oraAbs w) handleOra s
def execOraIndY (a : Byte) (s : State) : Result := runInstr (.oraIndY a) handleOra s
def execOraZpX (a : Byte) (s : State) : Result := runInstr (.oraZpX a) handleOra s
def execOraAbsY (w : Word) (s : State) : Result := runInstr (.oraAbsY w) handleOra s
def execOraAbsX (w : Word) (s : State) : Result := runInstr (.oraAbsX w) handleOra s

/-! ### EOR -/

/-- EOR (R133): `A <- A ^ M; SetNZ(A)`. -/
def handleEor : Handler := fun r s => .ran ({ s with a := s.a ^^^ s.load r.src }.setNZ (s.a ^^^ s.load r.src)) 0

def execEorIndX (a : Byte) (s : State) : Result := runInstr (.eorIndX a) handleEor s
def execEorZp (a : Byte) (s : State) : Result := runInstr (.eorZp a) handleEor s
def execEorImm (i : Byte) (s : State) : Result := runInstr (.eorImm i) handleEor s
def execEorAbs (w : Word) (s : State) : Result := runInstr (.eorAbs w) handleEor s
def execEorIndY (a : Byte) (s : State) : Result := runInstr (.eorIndY a) handleEor s
def execEorZpX (a : Byte) (s : State) : Result := runInstr (.eorZpX a) handleEor s
def execEorAbsY (w : Word) (s : State) : Result := runInstr (.eorAbsY w) handleEor s
def execEorAbsX (w : Word) (s : State) : Result := runInstr (.eorAbsX w) handleEor s

/-! ### CMP -/

/-- CMP (R134): `Compare(A, M)`. -/
def handleCmp : Handler := fun r s => .ran (s.compare s.a (s.load r.src)) 0

def execCmpIndX (a : Byte) (s : State) : Result := runInstr (.cmpIndX a) handleCmp s
def execCmpZp (a : Byte) (s : State) : Result := runInstr (.cmpZp a) handleCmp s
def execCmpImm (i : Byte) (s : State) : Result := runInstr (.cmpImm i) handleCmp s
def execCmpAbs (w : Word) (s : State) : Result := runInstr (.cmpAbs w) handleCmp s
def execCmpIndY (a : Byte) (s : State) : Result := runInstr (.cmpIndY a) handleCmp s
def execCmpZpX (a : Byte) (s : State) : Result := runInstr (.cmpZpX a) handleCmp s
def execCmpAbsY (w : Word) (s : State) : Result := runInstr (.cmpAbsY w) handleCmp s
def execCmpAbsX (w : Word) (s : State) : Result := runInstr (.cmpAbsX w) handleCmp s

/-! ### CPX -/

/-- CPX (R135): `Compare(X, M)`. -/
def handleCpx : Handler := fun r s => .ran (s.compare s.x (s.load r.src)) 0

def execCpxImm (i : Byte) (s : State) : Result := runInstr (.cpxImm i) handleCpx s
def execCpxZp (a : Byte) (s : State) : Result := runInstr (.cpxZp a) handleCpx s
def execCpxAbs (w : Word) (s : State) : Result := runInstr (.cpxAbs w) handleCpx s

/-! ### CPY -/

/-- CPY (R136): `Compare(Y, M)`. -/
def handleCpy : Handler := fun r s => .ran (s.compare s.y (s.load r.src)) 0

def execCpyImm (i : Byte) (s : State) : Result := runInstr (.cpyImm i) handleCpy s
def execCpyZp (a : Byte) (s : State) : Result := runInstr (.cpyZp a) handleCpy s
def execCpyAbs (w : Word) (s : State) : Result := runInstr (.cpyAbs w) handleCpy s

/-! ### BIT -/

/-- BIT (R137): `Z <- bool((A & M) = 0); N <- M[7]; V <- M[6]`. -/
def handleBit : Handler := fun r s =>
  .ran { s with
    z := s.a &&& s.load r.src == 0
    n := (s.load r.src).getLsbD 7
    v := (s.load r.src).getLsbD 6 } 0

def execBitZp (a : Byte) (s : State) : Result := runInstr (.bitZp a) handleBit s
def execBitAbs (w : Word) (s : State) : Result := runInstr (.bitAbs w) handleBit s

/-! ### INC -/

/-- INC (R138): `r <- M +8 1; MemWrite(ea, 1, r); SetNZ(r)`. -/
def handleInc : Handler := fun r s => .ran ((s.store r.src (s.load r.src + 1)).setNZ (s.load r.src + 1)) 0

def execIncZp (a : Byte) (s : State) : Result := runInstr (.incZp a) handleInc s
def execIncAbs (w : Word) (s : State) : Result := runInstr (.incAbs w) handleInc s
def execIncZpX (a : Byte) (s : State) : Result := runInstr (.incZpX a) handleInc s
def execIncAbsX (w : Word) (s : State) : Result := runInstr (.incAbsX w) handleInc s

/-! ### DEC -/

/-- DEC (R139): `r <- M -8 1; MemWrite(ea, 1, r); SetNZ(r)`. -/
def handleDec : Handler := fun r s => .ran ((s.store r.src (s.load r.src - 1)).setNZ (s.load r.src - 1)) 0

def execDecZp (a : Byte) (s : State) : Result := runInstr (.decZp a) handleDec s
def execDecAbs (w : Word) (s : State) : Result := runInstr (.decAbs w) handleDec s
def execDecZpX (a : Byte) (s : State) : Result := runInstr (.decZpX a) handleDec s
def execDecAbsX (w : Word) (s : State) : Result := runInstr (.decAbsX w) handleDec s

/-! ### INX -/

/-- INX (R140): `X <- X +8 1; SetNZ(X)`. -/
def handleInx : Handler := fun _ s => .ran ({ s with x := s.x + 1 }.setNZ (s.x + 1)) 0

def execInx (s : State) : Result := runInstr .inx handleInx s

/-! ### INY -/

/-- INY (R141): `Y <- Y +8 1; SetNZ(Y)`. -/
def handleIny : Handler := fun _ s => .ran ({ s with y := s.y + 1 }.setNZ (s.y + 1)) 0

def execIny (s : State) : Result := runInstr .iny handleIny s

/-! ### DEX -/

/-- DEX (R142): `X <- X -8 1; SetNZ(X)`. -/
def handleDex : Handler := fun _ s => .ran ({ s with x := s.x - 1 }.setNZ (s.x - 1)) 0

def execDex (s : State) : Result := runInstr .dex handleDex s

/-! ### DEY -/

/-- DEY (R143): `Y <- Y -8 1; SetNZ(Y)`. -/
def handleDey : Handler := fun _ s => .ran ({ s with y := s.y - 1 }.setNZ (s.y - 1)) 0

def execDey (s : State) : Result := runInstr .dey handleDey s

end Sys2Proof.Machine
end

