-- ==== Sys2Proof/Machine/ControlFlow.lean ====
section
/-! DEFINITION. Branches, jumps, subroutines, BRK and RTI (spec/46_control_flow.md R148 to R161):
a handler for each mnemonic, and for each row of the opcode table its own meaning. -/

namespace Sys2Proof.Machine

/-- The address whose page a taken branch's target is compared with (R94). -/
def branchReference (r : Resolved) (s : State) : Word :=
  match s.params.branchPageRef with
  | .nextPc => s.pc
  | .opcodeAddr => r.pc0

/-- `Branch(cond)` (R148), with the branch penalty of R94. -/
def branch (taken : Bool) : Handler := fun r s =>
  if taken then
    .ran { s with pc := r.src.address } (if crosses (branchReference r s) r.src.address then 2 else 1)
  else .ran s 0

/-! ### BPL -/

/-- BPL (R149): `Branch(N = 0)`. -/
def handleBpl : Handler := fun r s => branch (!s.n) r s

def execBpl (o : Byte) (s : State) : Result := runInstr (.bpl o) handleBpl s

/-! ### BMI -/

/-- BMI (R150): `Branch(N = 1)`. -/
def handleBmi : Handler := fun r s => branch s.n r s

def execBmi (o : Byte) (s : State) : Result := runInstr (.bmi o) handleBmi s

/-! ### BVC -/

/-- BVC (R151): `Branch(V = 0)`. -/
def handleBvc : Handler := fun r s => branch (!s.v) r s

def execBvc (o : Byte) (s : State) : Result := runInstr (.bvc o) handleBvc s

/-! ### BVS -/

/-- BVS (R152): `Branch(V = 1)`. -/
def handleBvs : Handler := fun r s => branch s.v r s

def execBvs (o : Byte) (s : State) : Result := runInstr (.bvs o) handleBvs s

/-! ### BCC -/

/-- BCC (R153): `Branch(C = 0)`. -/
def handleBcc : Handler := fun r s => branch (!s.c) r s

def execBcc (o : Byte) (s : State) : Result := runInstr (.bcc o) handleBcc s

/-! ### BCS -/

/-- BCS (R154): `Branch(C = 1)`. -/
def handleBcs : Handler := fun r s => branch s.c r s

def execBcs (o : Byte) (s : State) : Result := runInstr (.bcs o) handleBcs s

/-! ### BNE -/

/-- BNE (R155): `Branch(Z = 0)`. -/
def handleBne : Handler := fun r s => branch (!s.z) r s

def execBne (o : Byte) (s : State) : Result := runInstr (.bne o) handleBne s

/-! ### BEQ -/

/-- BEQ (R156): `Branch(Z = 1)`. -/
def handleBeq : Handler := fun r s => branch s.z r s

def execBeq (o : Byte) (s : State) : Result := runInstr (.beq o) handleBeq s

/-! ### JMP -/

/-- JMP (R157): `PC <- ea`. -/
def handleJmp : Handler := fun r s => .ran { s with pc := r.src.address } 0

def execJmpAbs (w : Word) (s : State) : Result := runInstr (.jmpAbs w) handleJmp s
def execJmpInd (w : Word) (s : State) : Result := runInstr (.jmpInd w) handleJmp s

/-! ### JSR -/

/-- JSR (R158): push the address of the instruction's last byte, then `PC <- ea`. -/
def handleJsr : Handler := fun r s => .ran { s.pushWord (s.pc - 1) with pc := r.src.address } 0

def execJsr (w : Word) (s : State) : Result := runInstr (.jsr w) handleJsr s

/-! ### RTS -/

/-- RTS (R159): pull an address, then `PC <- (hi ++ lo) +16 1`. -/
def handleRts : Handler := fun _ s => .ran { s.afterPullWord with pc := s.pulledWord + 1 } 0

def execRts (s : State) : Result := runInstr .rts handleRts s

/-! ### RTI -/

/-- RTI (R160): pull the status, then PC. -/
def handleRti : Handler := fun _ s => .ran s.leaveHandler 0

def execRti (s : State) : Result := runInstr .rti handleRti s

/-! ### BRK -/

/-- BRK (R161): enter the handler at the IRQ vector with return address pc0 + 2 and pushed bit 4 = 1; set I and the stored B. -/
def handleBrk : Handler := fun _ s => .ran { s.enterHandler (s.pc + 1) true irqVector with b := true } 0

def execBrk (s : State) : Result := runInstr .brk handleBrk s

end Sys2Proof.Machine
end

