-- ==== Sys2Proof/Machine/FlagOps.lean ====
section
/-! DEFINITION. Flag instructions and NOP (spec/47_flags_misc.md R162 to R169; the undocumented NOP forms, spec/48_undocumented.md R173):
a handler for each mnemonic, and for each row of the opcode table its own meaning. -/

namespace Sys2Proof.Machine

/-! ### CLC -/

/-- CLC (R162): `C <- 0`. -/
def handleClc : Handler := fun _ s => .ran { s with c := false } 0

def execClc (s : State) : Result := runInstr .clc handleClc s

/-! ### SEC -/

/-- SEC (R163): `C <- 1`. -/
def handleSec : Handler := fun _ s => .ran { s with c := true } 0

def execSec (s : State) : Result := runInstr .sec handleSec s

/-! ### CLI -/

/-- CLI (R164): `I <- 0`. -/
def handleCli : Handler := fun _ s => .ran { s with i := false } 0

def execCli (s : State) : Result := runInstr .cli handleCli s

/-! ### SEI -/

/-- SEI (R165): `I <- 1`. -/
def handleSei : Handler := fun _ s => .ran { s with i := true } 0

def execSei (s : State) : Result := runInstr .sei handleSei s

/-! ### CLD -/

/-- CLD (R166): `D <- 0`. -/
def handleCld : Handler := fun _ s => .ran { s with d := false } 0

def execCld (s : State) : Result := runInstr .cld handleCld s

/-! ### SED -/

/-- SED (R167): `D <- 1`. -/
def handleSed : Handler := fun _ s => .ran { s with d := true } 0

def execSed (s : State) : Result := runInstr .sed handleSed s

/-! ### CLV -/

/-- CLV (R168): `V <- 0`. -/
def handleClv : Handler := fun _ s => .ran { s with v := false } 0

def execClv (s : State) : Result := runInstr .clv handleClv s

/-! ### NOP -/

/-- NOP (R169, R173): nothing (R169); the undocumented forms read their operand, which has no effect (R46, R173). -/
def handleNop : Handler := fun _ s => .ran s 0

def execNopZp (op : Byte) (a : Byte) (s : State) : Result := runInstr (.nopZp op a) handleNop s
def execNopAbs (w : Word) (s : State) : Result := runInstr (.nopAbs w) handleNop s
def execNopZpX (op : Byte) (a : Byte) (s : State) : Result := runInstr (.nopZpX op a) handleNop s
def execNop (op : Byte) (s : State) : Result := runInstr (.nop op) handleNop s
def execNopAbsX (op : Byte) (w : Word) (s : State) : Result := runInstr (.nopAbsX op w) handleNop s
def execNopImm (op : Byte) (i : Byte) (s : State) : Result := runInstr (.nopImm op i) handleNop s

end Sys2Proof.Machine
end

