-- ==== Sys2Proof/Machine/LoadStore.lean ====
section
/-! DEFINITION. Loads, stores and register transfers (spec/42_load_store_transfer.md R113 to R124):
a handler for each mnemonic, and for each row of the opcode table its own meaning. -/

namespace Sys2Proof.Machine

/-! ### LDA -/

/-- LDA (R113): `A <- M; SetNZ(A)`. -/
def handleLda : Handler := fun r s => .ran ({ s with a := s.load r.src }.setNZ (s.load r.src)) 0

def execLdaIndX (a : Byte) (s : State) : Result := runInstr (.ldaIndX a) handleLda s
def execLdaZp (a : Byte) (s : State) : Result := runInstr (.ldaZp a) handleLda s
def execLdaImm (i : Byte) (s : State) : Result := runInstr (.ldaImm i) handleLda s
def execLdaAbs (w : Word) (s : State) : Result := runInstr (.ldaAbs w) handleLda s
def execLdaIndY (a : Byte) (s : State) : Result := runInstr (.ldaIndY a) handleLda s
def execLdaZpX (a : Byte) (s : State) : Result := runInstr (.ldaZpX a) handleLda s
def execLdaAbsY (w : Word) (s : State) : Result := runInstr (.ldaAbsY w) handleLda s
def execLdaAbsX (w : Word) (s : State) : Result := runInstr (.ldaAbsX w) handleLda s

/-! ### LDX -/

/-- LDX (R114): `X <- M; SetNZ(X)`. -/
def handleLdx : Handler := fun r s => .ran ({ s with x := s.load r.src }.setNZ (s.load r.src)) 0

def execLdxImm (i : Byte) (s : State) : Result := runInstr (.ldxImm i) handleLdx s
def execLdxZp (a : Byte) (s : State) : Result := runInstr (.ldxZp a) handleLdx s
def execLdxAbs (w : Word) (s : State) : Result := runInstr (.ldxAbs w) handleLdx s
def execLdxZpY (a : Byte) (s : State) : Result := runInstr (.ldxZpY a) handleLdx s
def execLdxAbsY (w : Word) (s : State) : Result := runInstr (.ldxAbsY w) handleLdx s

/-! ### LDY -/

/-- LDY (R115): `Y <- M; SetNZ(Y)`. -/
def handleLdy : Handler := fun r s => .ran ({ s with y := s.load r.src }.setNZ (s.load r.src)) 0

def execLdyImm (i : Byte) (s : State) : Result := runInstr (.ldyImm i) handleLdy s
def execLdyZp (a : Byte) (s : State) : Result := runInstr (.ldyZp a) handleLdy s
def execLdyAbs (w : Word) (s : State) : Result := runInstr (.ldyAbs w) handleLdy s
def execLdyZpX (a : Byte) (s : State) : Result := runInstr (.ldyZpX a) handleLdy s
def execLdyAbsX (w : Word) (s : State) : Result := runInstr (.ldyAbsX w) handleLdy s

/-! ### STA -/

/-- STA (R116): `Store(A)`; no flag. -/
def handleSta : Handler := fun r s => .ran (s.store r.src s.a) 0

def execStaIndX (a : Byte) (s : State) : Result := runInstr (.staIndX a) handleSta s
def execStaZp (a : Byte) (s : State) : Result := runInstr (.staZp a) handleSta s
def execStaAbs (w : Word) (s : State) : Result := runInstr (.staAbs w) handleSta s
def execStaIndY (a : Byte) (s : State) : Result := runInstr (.staIndY a) handleSta s
def execStaZpX (a : Byte) (s : State) : Result := runInstr (.staZpX a) handleSta s
def execStaAbsY (w : Word) (s : State) : Result := runInstr (.staAbsY w) handleSta s
def execStaAbsX (w : Word) (s : State) : Result := runInstr (.staAbsX w) handleSta s

/-! ### STX -/

/-- STX (R117): `Store(X)`; no flag. -/
def handleStx : Handler := fun r s => .ran (s.store r.src s.x) 0

def execStxZp (a : Byte) (s : State) : Result := runInstr (.stxZp a) handleStx s
def execStxAbs (w : Word) (s : State) : Result := runInstr (.stxAbs w) handleStx s
def execStxZpY (a : Byte) (s : State) : Result := runInstr (.stxZpY a) handleStx s

/-! ### STY -/

/-- STY (R118): `Store(Y)`; no flag. -/
def handleSty : Handler := fun r s => .ran (s.store r.src s.y) 0

def execStyZp (a : Byte) (s : State) : Result := runInstr (.styZp a) handleSty s
def execStyAbs (w : Word) (s : State) : Result := runInstr (.styAbs w) handleSty s
def execStyZpX (a : Byte) (s : State) : Result := runInstr (.styZpX a) handleSty s

/-! ### TAX -/

/-- TAX (R119): `X <- A; SetNZ(X)`. -/
def handleTax : Handler := fun _ s => .ran ({ s with x := s.a }.setNZ s.a) 0

def execTax (s : State) : Result := runInstr .tax handleTax s

/-! ### TAY -/

/-- TAY (R120): `Y <- A; SetNZ(Y)`. -/
def handleTay : Handler := fun _ s => .ran ({ s with y := s.a }.setNZ s.a) 0

def execTay (s : State) : Result := runInstr .tay handleTay s

/-! ### TXA -/

/-- TXA (R121): `A <- X; SetNZ(A)`. -/
def handleTxa : Handler := fun _ s => .ran ({ s with a := s.x }.setNZ s.x) 0

def execTxa (s : State) : Result := runInstr .txa handleTxa s

/-! ### TYA -/

/-- TYA (R122): `A <- Y; SetNZ(A)`. -/
def handleTya : Handler := fun _ s => .ran ({ s with a := s.y }.setNZ s.y) 0

def execTya (s : State) : Result := runInstr .tya handleTya s

/-! ### TSX -/

/-- TSX (R123): `X <- SP; SetNZ(X)`. -/
def handleTsx : Handler := fun _ s => .ran ({ s with x := s.sp }.setNZ s.sp) 0

def execTsx (s : State) : Result := runInstr .tsx handleTsx s

/-! ### TXS -/

/-- TXS (R124): `SP <- X`; no flag. -/
def handleTxs : Handler := fun _ s => .ran { s with sp := s.x } 0

def execTxs (s : State) : Result := runInstr .txs handleTxs s

end Sys2Proof.Machine
end

