-- ==== Sys2Proof/Machine/Shift.lean ====
section
/-! DEFINITION. Shift and rotate instructions (spec/45_shift_rotate.md R144 to R147):
a handler for each mnemonic, and for each row of the opcode table its own meaning. -/

namespace Sys2Proof.Machine

/-- The common end of a shift or rotate: C takes the bit shifted out, the operand takes the result, N and Z are the
result's (R98, R144 to R147). -/
def State.storeShift (s : State) (src : Src) (q : ShiftResult) : State :=
  ({ s with c := q.out }.store src q.value).setNZ q.value

/-! ### ASL -/

/-- ASL (R144): `C <- M[7]; r <- (M << 1) mod 2^8; Store(r); SetNZ(r)`. -/
def handleAsl : Handler := fun r s => .ran (s.storeShift r.src (shiftLeft (s.load r.src) false)) 0

def execAslZp (a : Byte) (s : State) : Result := runInstr (.aslZp a) handleAsl s
def execAslAcc (s : State) : Result := runInstr .aslAcc handleAsl s
def execAslAbs (w : Word) (s : State) : Result := runInstr (.aslAbs w) handleAsl s
def execAslZpX (a : Byte) (s : State) : Result := runInstr (.aslZpX a) handleAsl s
def execAslAbsX (w : Word) (s : State) : Result := runInstr (.aslAbsX w) handleAsl s

/-! ### LSR -/

/-- LSR (R145): `C <- M[0]; r <- M >> 1; Store(r); SetNZ(r)`. -/
def handleLsr : Handler := fun r s => .ran (s.storeShift r.src (shiftRight (s.load r.src) false)) 0

def execLsrZp (a : Byte) (s : State) : Result := runInstr (.lsrZp a) handleLsr s
def execLsrAcc (s : State) : Result := runInstr .lsrAcc handleLsr s
def execLsrAbs (w : Word) (s : State) : Result := runInstr (.lsrAbs w) handleLsr s
def execLsrZpX (a : Byte) (s : State) : Result := runInstr (.lsrZpX a) handleLsr s
def execLsrAbsX (w : Word) (s : State) : Result := runInstr (.lsrAbsX w) handleLsr s

/-! ### ROL -/

/-- ROL (R146): C into bit 0, bit 7 into C; `Store(r); SetNZ(r)`. -/
def handleRol : Handler := fun r s => .ran (s.storeShift r.src (shiftLeft (s.load r.src) s.c)) 0

def execRolZp (a : Byte) (s : State) : Result := runInstr (.rolZp a) handleRol s
def execRolAcc (s : State) : Result := runInstr .rolAcc handleRol s
def execRolAbs (w : Word) (s : State) : Result := runInstr (.rolAbs w) handleRol s
def execRolZpX (a : Byte) (s : State) : Result := runInstr (.rolZpX a) handleRol s
def execRolAbsX (w : Word) (s : State) : Result := runInstr (.rolAbsX w) handleRol s

/-! ### ROR -/

/-- ROR (R147): C into bit 7, bit 0 into C; `Store(r); SetNZ(r)`. -/
def handleRor : Handler := fun r s => .ran (s.storeShift r.src (shiftRight (s.load r.src) s.c)) 0

def execRorZp (a : Byte) (s : State) : Result := runInstr (.rorZp a) handleRor s
def execRorAcc (s : State) : Result := runInstr .rorAcc handleRor s
def execRorAbs (w : Word) (s : State) : Result := runInstr (.rorAbs w) handleRor s
def execRorZpX (a : Byte) (s : State) : Result := runInstr (.rorZpX a) handleRor s
def execRorAbsX (w : Word) (s : State) : Result := runInstr (.rorAbsX w) handleRor s

end Sys2Proof.Machine
end

