-- ==== Sys2Proof/Machine/Stack.lean ====
section
/-! DEFINITION. Stack instructions (spec/43_stack.md R125 to R128):
a handler for each mnemonic, and for each row of the opcode table its own meaning. -/

namespace Sys2Proof.Machine

/-! ### PHA -/

/-- PHA (R125): `Push(A)`; no flag. -/
def handlePha : Handler := fun _ s => .ran (s.push s.a) 0

def execPha (s : State) : Result := runInstr .pha handlePha s

/-! ### PHP -/

/-- PHP (R126): push the status with bits 5 and 4 set; no flag. -/
def handlePhp : Handler := fun _ s => .ran (s.push (s.statusByte true)) 0

def execPhp (s : State) : Result := runInstr .php handlePhp s

/-! ### PLA -/

/-- PLA (R127): `A <- Pull(); SetNZ(A)`. -/
def handlePla : Handler := fun _ s => .ran ({ s.afterPull with a := s.pulled }.setNZ s.pulled) 0

def execPla (s : State) : Result := runInstr .pla handlePla s

/-! ### PLP -/

/-- PLP (R128): pull N, V, D, I, Z, C; the stored B and bit 5 are kept. -/
def handlePlp : Handler := fun _ s => .ran (s.afterPull.loadStatus s.pulled) 0

def execPlp (s : State) : Result := runInstr .plp handlePlp s

end Sys2Proof.Machine
end

