-- ==== Sys2Proof/Machine/Undocumented.lean ====
section
/-! DEFINITION. JAM and the undocumented operations (spec/48_undocumented.md R172, R174 to R193):
a handler for each mnemonic, and for each row of the opcode table its own meaning. -/

namespace Sys2Proof.Machine

/-- The store of SHA, SHX, SHY and TAS (R189 to R192): the value and `H1 = high(base) +8 1`, where the base is
recovered from the effective address and the index; a page cross is refused. -/
def unstableStore (index v : Byte) : Handler := fun r s =>
  if r.pcross then .refuse (.unstableStore r.op)
  else .ran (s.write r.src.address (v &&& (highByte (r.src.address - zext16 index) + 1))) 0

/-! ### JAM -/

/-- JAM (R172): a JAM byte that is not in `HALT_OPCODES` is refused; one that is halts at the fetch (`State.halt`). -/
def handleJam : Handler := fun r _ => .refuse (.undocumentedRefused r.op)

def execJam (op : Byte) (s : State) : Result := runInstr (.jam op) handleJam s

/-! ### SLO -/

/-- SLO (R174): shift M left and store it; `A <- A | r; SetNZ(A)`. -/
def handleSlo : Handler := fun r s =>
  let q := shiftLeft (s.load r.src) false
  .ran ({ s.store r.src q.value with c := q.out, a := s.a ||| q.value }.setNZ (s.a ||| q.value)) 0

def execSloIndX (a : Byte) (s : State) : Result := runInstr (.sloIndX a) handleSlo s
def execSloZp (a : Byte) (s : State) : Result := runInstr (.sloZp a) handleSlo s
def execSloAbs (w : Word) (s : State) : Result := runInstr (.sloAbs w) handleSlo s
def execSloIndY (a : Byte) (s : State) : Result := runInstr (.sloIndY a) handleSlo s
def execSloZpX (a : Byte) (s : State) : Result := runInstr (.sloZpX a) handleSlo s
def execSloAbsY (w : Word) (s : State) : Result := runInstr (.sloAbsY w) handleSlo s
def execSloAbsX (w : Word) (s : State) : Result := runInstr (.sloAbsX w) handleSlo s

/-! ### RLA -/

/-- RLA (R175): rotate M left and store it; `A <- A & r; SetNZ(A)`. -/
def handleRla : Handler := fun r s =>
  let q := shiftLeft (s.load r.src) s.c
  .ran ({ s.store r.src q.value with c := q.out, a := s.a &&& q.value }.setNZ (s.a &&& q.value)) 0

def execRlaIndX (a : Byte) (s : State) : Result := runInstr (.rlaIndX a) handleRla s
def execRlaZp (a : Byte) (s : State) : Result := runInstr (.rlaZp a) handleRla s
def execRlaAbs (w : Word) (s : State) : Result := runInstr (.rlaAbs w) handleRla s
def execRlaIndY (a : Byte) (s : State) : Result := runInstr (.rlaIndY a) handleRla s
def execRlaZpX (a : Byte) (s : State) : Result := runInstr (.rlaZpX a) handleRla s
def execRlaAbsY (w : Word) (s : State) : Result := runInstr (.rlaAbsY w) handleRla s
def execRlaAbsX (w : Word) (s : State) : Result := runInstr (.rlaAbsX w) handleRla s

/-! ### SRE -/

/-- SRE (R176): shift M right and store it; `A <- A ^ r; SetNZ(A)`. -/
def handleSre : Handler := fun r s =>
  let q := shiftRight (s.load r.src) false
  .ran ({ s.store r.src q.value with c := q.out, a := s.a ^^^ q.value }.setNZ (s.a ^^^ q.value)) 0

def execSreIndX (a : Byte) (s : State) : Result := runInstr (.sreIndX a) handleSre s
def execSreZp (a : Byte) (s : State) : Result := runInstr (.sreZp a) handleSre s
def execSreAbs (w : Word) (s : State) : Result := runInstr (.sreAbs w) handleSre s
def execSreIndY (a : Byte) (s : State) : Result := runInstr (.sreIndY a) handleSre s
def execSreZpX (a : Byte) (s : State) : Result := runInstr (.sreZpX a) handleSre s
def execSreAbsY (w : Word) (s : State) : Result := runInstr (.sreAbsY w) handleSre s
def execSreAbsX (w : Word) (s : State) : Result := runInstr (.sreAbsX w) handleSre s

/-! ### RRA -/

/-- RRA (R177): rotate M right and store it; then `AdcOp(r)` with the bit rotated out as carry. -/
def handleRra : Handler := fun r s =>
  let q := shiftRight (s.load r.src) s.c
  .ran ({ s.store r.src q.value with c := q.out }.adcOp q.value) 0

def execRraIndX (a : Byte) (s : State) : Result := runInstr (.rraIndX a) handleRra s
def execRraZp (a : Byte) (s : State) : Result := runInstr (.rraZp a) handleRra s
def execRraAbs (w : Word) (s : State) : Result := runInstr (.rraAbs w) handleRra s
def execRraIndY (a : Byte) (s : State) : Result := runInstr (.rraIndY a) handleRra s
def execRraZpX (a : Byte) (s : State) : Result := runInstr (.rraZpX a) handleRra s
def execRraAbsY (w : Word) (s : State) : Result := runInstr (.rraAbsY w) handleRra s
def execRraAbsX (w : Word) (s : State) : Result := runInstr (.rraAbsX w) handleRra s

/-! ### SAX -/

/-- SAX (R178): `MemWrite(ea, 1, A & X)`; no flag. -/
def handleSax : Handler := fun r s => .ran (s.store r.src (s.a &&& s.x)) 0

def execSaxIndX (a : Byte) (s : State) : Result := runInstr (.saxIndX a) handleSax s
def execSaxZp (a : Byte) (s : State) : Result := runInstr (.saxZp a) handleSax s
def execSaxAbs (w : Word) (s : State) : Result := runInstr (.saxAbs w) handleSax s
def execSaxZpY (a : Byte) (s : State) : Result := runInstr (.saxZpY a) handleSax s

/-! ### LAX -/

/-- LAX (R179): `A <- M; X <- M; SetNZ(M)`. -/
def handleLax : Handler := fun r s => .ran ({ s with a := s.load r.src, x := s.load r.src }.setNZ (s.load r.src)) 0

def execLaxIndX (a : Byte) (s : State) : Result := runInstr (.laxIndX a) handleLax s
def execLaxZp (a : Byte) (s : State) : Result := runInstr (.laxZp a) handleLax s
def execLaxAbs (w : Word) (s : State) : Result := runInstr (.laxAbs w) handleLax s
def execLaxIndY (a : Byte) (s : State) : Result := runInstr (.laxIndY a) handleLax s
def execLaxZpY (a : Byte) (s : State) : Result := runInstr (.laxZpY a) handleLax s
def execLaxAbsY (w : Word) (s : State) : Result := runInstr (.laxAbsY w) handleLax s

/-! ### DCP -/

/-- DCP (R180): `r <- M -8 1; MemWrite(ea, 1, r); Compare(A, r)`. -/
def handleDcp : Handler := fun r s => .ran ((s.store r.src (s.load r.src - 1)).compare s.a (s.load r.src - 1)) 0

def execDcpIndX (a : Byte) (s : State) : Result := runInstr (.dcpIndX a) handleDcp s
def execDcpZp (a : Byte) (s : State) : Result := runInstr (.dcpZp a) handleDcp s
def execDcpAbs (w : Word) (s : State) : Result := runInstr (.dcpAbs w) handleDcp s
def execDcpIndY (a : Byte) (s : State) : Result := runInstr (.dcpIndY a) handleDcp s
def execDcpZpX (a : Byte) (s : State) : Result := runInstr (.dcpZpX a) handleDcp s
def execDcpAbsY (w : Word) (s : State) : Result := runInstr (.dcpAbsY w) handleDcp s
def execDcpAbsX (w : Word) (s : State) : Result := runInstr (.dcpAbsX w) handleDcp s

/-! ### ISC -/

/-- ISC (R181): `r <- M +8 1; MemWrite(ea, 1, r); SbcOp(r)`. -/
def handleIsc : Handler := fun r s => .ran ((s.store r.src (s.load r.src + 1)).sbcOp (s.load r.src + 1)) 0

def execIscIndX (a : Byte) (s : State) : Result := runInstr (.iscIndX a) handleIsc s
def execIscZp (a : Byte) (s : State) : Result := runInstr (.iscZp a) handleIsc s
def execIscAbs (w : Word) (s : State) : Result := runInstr (.iscAbs w) handleIsc s
def execIscIndY (a : Byte) (s : State) : Result := runInstr (.iscIndY a) handleIsc s
def execIscZpX (a : Byte) (s : State) : Result := runInstr (.iscZpX a) handleIsc s
def execIscAbsY (w : Word) (s : State) : Result := runInstr (.iscAbsY w) handleIsc s
def execIscAbsX (w : Word) (s : State) : Result := runInstr (.iscAbsX w) handleIsc s

/-! ### ANC -/

/-- ANC (R182): `A <- A & i; SetNZ(A); C <- A[7]`. -/
def handleAnc : Handler := fun r s =>
  let v := s.a &&& s.load r.src
  .ran ({ s with a := v, c := v.getLsbD 7 }.setNZ v) 0

def execAnc (op : Byte) (i : Byte) (s : State) : Result := runInstr (.anc op i) handleAnc s

/-! ### ALR -/

/-- ALR (R183): `t <- A & i; C <- t[0]; A <- t >> 1; SetNZ(A)`. -/
def handleAlr : Handler := fun r s =>
  let q := shiftRight (s.a &&& s.load r.src) false
  .ran ({ s with a := q.value, c := q.out }.setNZ q.value) 0

def execAlr (i : Byte) (s : State) : Result := runInstr (.alr i) handleAlr s

/-! ### ARR -/

/-- ARR (R184): and, then rotate right, with C = r[6] and V = r[6] ^ r[5]; refused in decimal mode. -/
def handleArr : Handler := fun r s =>
  let v := (shiftRight (s.a &&& s.load r.src) s.c).value
  if s.decimal then .refuse .decimalArr
  else .ran ({ s with a := v, c := v.getLsbD 6, v := v.getLsbD 6 ^^ v.getLsbD 5 }.setNZ v) 0

def execArr (i : Byte) (s : State) : Result := runInstr (.arr i) handleArr s

/-! ### SBX -/

/-- SBX (R185): `t <- A & X; C <- bool(t >= i); X <- t - i; SetNZ(X)`. -/
def handleSbx : Handler := fun r s =>
  let t := s.a &&& s.x
  .ran ({ s with x := t - s.load r.src }.compare t (s.load r.src)) 0

def execSbx (i : Byte) (s : State) : Result := runInstr (.sbx i) handleSbx s

/-! ### USBC -/

/-- USBC (R186): `SbcOp(i)`, as SBC immediate. -/
def handleUsbc : Handler := fun r s => .ran (s.sbcOp (s.load r.src)) 0

def execUsbc (i : Byte) (s : State) : Result := runInstr (.usbc i) handleUsbc s

/-! ### ANE -/

/-- ANE (R187): `A <- (A | MAGIC) & X & i; SetNZ(A)`, MAGIC a fresh draw (log 6). -/
def handleAne : Handler := fun r s =>
  let v := (s.a ||| Config.magic s.draws) &&& s.x &&& s.load r.src
  .ran ({ s with a := v, draws := s.draws + 1 }.setNZ v) 0

def execAne (i : Byte) (s : State) : Result := runInstr (.ane i) handleAne s

/-! ### LXA -/

/-- LXA (R188): `t <- (A | MAGIC) & i; A <- t; X <- t; SetNZ(t)`, MAGIC a fresh draw (log 6). -/
def handleLxa : Handler := fun r s =>
  let v := (s.a ||| Config.magic s.draws) &&& s.load r.src
  .ran ({ s with a := v, x := v, draws := s.draws + 1 }.setNZ v) 0

def execLxa (i : Byte) (s : State) : Result := runInstr (.lxa i) handleLxa s

/-! ### SHA -/

/-- SHA (R189): store A & X & H1; refused on a page cross. Both modes are indexed by Y. -/
def handleSha : Handler := fun r s => unstableStore s.y (s.a &&& s.x) r s

def execShaIndY (a : Byte) (s : State) : Result := runInstr (.shaIndY a) handleSha s
def execShaAbsY (w : Word) (s : State) : Result := runInstr (.shaAbsY w) handleSha s

/-! ### SHX -/

/-- SHX (R190): store X & H1; refused on a page cross. -/
def handleShx : Handler := fun r s => unstableStore s.y s.x r s

def execShx (w : Word) (s : State) : Result := runInstr (.shx w) handleShx s

/-! ### SHY -/

/-- SHY (R191): store Y & H1; refused on a page cross. -/
def handleShy : Handler := fun r s => unstableStore s.x s.y r s

def execShy (w : Word) (s : State) : Result := runInstr (.shy w) handleShy s

/-! ### TAS -/

/-- TAS (R192): `SP <- A & X`, then store SP & H1; refused on a page cross. -/
def handleTas : Handler := fun r s => unstableStore s.y (s.a &&& s.x) r { s with sp := s.a &&& s.x }

def execTas (w : Word) (s : State) : Result := runInstr (.tas w) handleTas s

/-! ### LAS -/

/-- LAS (R193): `v <- M & SP; A <- v; X <- v; SP <- v; SetNZ(v)`. -/
def handleLas : Handler := fun r s =>
  let v := s.load r.src &&& s.sp
  .ran ({ s with a := v, x := v, sp := v }.setNZ v) 0

def execLas (w : Word) (s : State) : Result := runInstr (.las w) handleLas s

end Sys2Proof.Machine
end

