-- ==== Sys2Proof/Machine/Dispatch.lean ====
section
/-! DEFINITION. The instruction dispatcher (spec/41_dispatch.md R90): one arm for each constructor of `Instr`, in
opcode order, each one call of that instruction's own meaning. -/

namespace Sys2Proof.Machine

def exec (i : Instr) (s : State) : Host.Outcome State Fault Refusal :=
  match i with
  | .brk => Sys2Proof.Machine.execBrk s
  | .oraIndX a => Sys2Proof.Machine.execOraIndX a s
  | .jam op => Sys2Proof.Machine.execJam op s
  | .sloIndX a => Sys2Proof.Machine.execSloIndX a s
  | .nopZp op a => Sys2Proof.Machine.execNopZp op a s
  | .oraZp a => Sys2Proof.Machine.execOraZp a s
  | .aslZp a => Sys2Proof.Machine.execAslZp a s
  | .sloZp a => Sys2Proof.Machine.execSloZp a s
  | .php => Sys2Proof.Machine.execPhp s
  | .oraImm b => Sys2Proof.Machine.execOraImm b s
  | .aslAcc => Sys2Proof.Machine.execAslAcc s
  | .anc op b => Sys2Proof.Machine.execAnc op b s
  | .nopAbs w => Sys2Proof.Machine.execNopAbs w s
  | .oraAbs w => Sys2Proof.Machine.execOraAbs w s
  | .aslAbs w => Sys2Proof.Machine.execAslAbs w s
  | .sloAbs w => Sys2Proof.Machine.execSloAbs w s
  | .bpl o => Sys2Proof.Machine.execBpl o s
  | .oraIndY a => Sys2Proof.Machine.execOraIndY a s
  | .sloIndY a => Sys2Proof.Machine.execSloIndY a s
  | .nopZpX op a => Sys2Proof.Machine.execNopZpX op a s
  | .oraZpX a => Sys2Proof.Machine.execOraZpX a s
  | .aslZpX a => Sys2Proof.Machine.execAslZpX a s
  | .sloZpX a => Sys2Proof.Machine.execSloZpX a s
  | .clc => Sys2Proof.Machine.execClc s
  | .oraAbsY w => Sys2Proof.Machine.execOraAbsY w s
  | .nop op => Sys2Proof.Machine.execNop op s
  | .sloAbsY w => Sys2Proof.Machine.execSloAbsY w s
  | .nopAbsX op w => Sys2Proof.Machine.execNopAbsX op w s
  | .oraAbsX w => Sys2Proof.Machine.execOraAbsX w s
  | .aslAbsX w => Sys2Proof.Machine.execAslAbsX w s
  | .sloAbsX w => Sys2Proof.Machine.execSloAbsX w s
  | .jsr w => Sys2Proof.Machine.execJsr w s
  | .andIndX a => Sys2Proof.Machine.execAndIndX a s
  | .rlaIndX a => Sys2Proof.Machine.execRlaIndX a s
  | .bitZp a => Sys2Proof.Machine.execBitZp a s
  | .andZp a => Sys2Proof.Machine.execAndZp a s
  | .rolZp a => Sys2Proof.Machine.execRolZp a s
  | .rlaZp a => Sys2Proof.Machine.execRlaZp a s
  | .plp => Sys2Proof.Machine.execPlp s
  | .andImm b => Sys2Proof.Machine.execAndImm b s
  | .rolAcc => Sys2Proof.Machine.execRolAcc s
  | .bitAbs w => Sys2Proof.Machine.execBitAbs w s
  | .andAbs w => Sys2Proof.Machine.execAndAbs w s
  | .rolAbs w => Sys2Proof.Machine.execRolAbs w s
  | .rlaAbs w => Sys2Proof.Machine.execRlaAbs w s
  | .bmi o => Sys2Proof.Machine.execBmi o s
  | .andIndY a => Sys2Proof.Machine.execAndIndY a s
  | .rlaIndY a => Sys2Proof.Machine.execRlaIndY a s
  | .andZpX a => Sys2Proof.Machine.execAndZpX a s
  | .rolZpX a => Sys2Proof.Machine.execRolZpX a s
  | .rlaZpX a => Sys2Proof.Machine.execRlaZpX a s
  | .sec => Sys2Proof.Machine.execSec s
  | .andAbsY w => Sys2Proof.Machine.execAndAbsY w s
  | .rlaAbsY w => Sys2Proof.Machine.execRlaAbsY w s
  | .andAbsX w => Sys2Proof.Machine.execAndAbsX w s
  | .rolAbsX w => Sys2Proof.Machine.execRolAbsX w s
  | .rlaAbsX w => Sys2Proof.Machine.execRlaAbsX w s
  | .rti => Sys2Proof.Machine.execRti s
  | .eorIndX a => Sys2Proof.Machine.execEorIndX a s
  | .sreIndX a => Sys2Proof.Machine.execSreIndX a s
  | .eorZp a => Sys2Proof.Machine.execEorZp a s
  | .lsrZp a => Sys2Proof.Machine.execLsrZp a s
  | .sreZp a => Sys2Proof.Machine.execSreZp a s
  | .pha => Sys2Proof.Machine.execPha s
  | .eorImm b => Sys2Proof.Machine.execEorImm b s
  | .lsrAcc => Sys2Proof.Machine.execLsrAcc s
  | .alr b => Sys2Proof.Machine.execAlr b s
  | .jmpAbs w => Sys2Proof.Machine.execJmpAbs w s
  | .eorAbs w => Sys2Proof.Machine.execEorAbs w s
  | .lsrAbs w => Sys2Proof.Machine.execLsrAbs w s
  | .sreAbs w => Sys2Proof.Machine.execSreAbs w s
  | .bvc o => Sys2Proof.Machine.execBvc o s
  | .eorIndY a => Sys2Proof.Machine.execEorIndY a s
  | .sreIndY a => Sys2Proof.Machine.execSreIndY a s
  | .eorZpX a => Sys2Proof.Machine.execEorZpX a s
  | .lsrZpX a => Sys2Proof.Machine.execLsrZpX a s
  | .sreZpX a => Sys2Proof.Machine.execSreZpX a s
  | .cli => Sys2Proof.Machine.execCli s
  | .eorAbsY w => Sys2Proof.Machine.execEorAbsY w s
  | .sreAbsY w => Sys2Proof.Machine.execSreAbsY w s
  | .eorAbsX w => Sys2Proof.Machine.execEorAbsX w s
  | .lsrAbsX w => Sys2Proof.Machine.execLsrAbsX w s
  | .sreAbsX w => Sys2Proof.Machine.execSreAbsX w s
  | .rts => Sys2Proof.Machine.execRts s
  | .adcIndX a => Sys2Proof.Machine.execAdcIndX a s
  | .rraIndX a => Sys2Proof.Machine.execRraIndX a s
  | .adcZp a => Sys2Proof.Machine.execAdcZp a s
  | .rorZp a => Sys2Proof.Machine.execRorZp a s
  | .rraZp a => Sys2Proof.Machine.execRraZp a s
  | .pla => Sys2Proof.Machine.execPla s
  | .adcImm b => Sys2Proof.Machine.execAdcImm b s
  | .rorAcc => Sys2Proof.Machine.execRorAcc s
  | .arr b => Sys2Proof.Machine.execArr b s
  | .jmpInd w => Sys2Proof.Machine.execJmpInd w s
  | .adcAbs w => Sys2Proof.Machine.execAdcAbs w s
  | .rorAbs w => Sys2Proof.Machine.execRorAbs w s
  | .rraAbs w => Sys2Proof.Machine.execRraAbs w s
  | .bvs o => Sys2Proof.Machine.execBvs o s
  | .adcIndY a => Sys2Proof.Machine.execAdcIndY a s
  | .rraIndY a => Sys2Proof.Machine.execRraIndY a s
  | .adcZpX a => Sys2Proof.Machine.execAdcZpX a s
  | .rorZpX a => Sys2Proof.Machine.execRorZpX a s
  | .rraZpX a => Sys2Proof.Machine.execRraZpX a s
  | .sei => Sys2Proof.Machine.execSei s
  | .adcAbsY w => Sys2Proof.Machine.execAdcAbsY w s
  | .rraAbsY w => Sys2Proof.Machine.execRraAbsY w s
  | .adcAbsX w => Sys2Proof.Machine.execAdcAbsX w s
  | .rorAbsX w => Sys2Proof.Machine.execRorAbsX w s
  | .rraAbsX w => Sys2Proof.Machine.execRraAbsX w s
  | .nopImm op b => Sys2Proof.Machine.execNopImm op b s
  | .staIndX a => Sys2Proof.Machine.execStaIndX a s
  | .saxIndX a => Sys2Proof.Machine.execSaxIndX a s
  | .styZp a => Sys2Proof.Machine.execStyZp a s
  | .staZp a => Sys2Proof.Machine.execStaZp a s
  | .stxZp a => Sys2Proof.Machine.execStxZp a s
  | .saxZp a => Sys2Proof.Machine.execSaxZp a s
  | .dey => Sys2Proof.Machine.execDey s
  | .txa => Sys2Proof.Machine.execTxa s
  | .ane b => Sys2Proof.Machine.execAne b s
  | .styAbs w => Sys2Proof.Machine.execStyAbs w s
  | .staAbs w => Sys2Proof.Machine.execStaAbs w s
  | .stxAbs w => Sys2Proof.Machine.execStxAbs w s
  | .saxAbs w => Sys2Proof.Machine.execSaxAbs w s
  | .bcc o => Sys2Proof.Machine.execBcc o s
  | .staIndY a => Sys2Proof.Machine.execStaIndY a s
  | .shaIndY a => Sys2Proof.Machine.execShaIndY a s
  | .styZpX a => Sys2Proof.Machine.execStyZpX a s
  | .staZpX a => Sys2Proof.Machine.execStaZpX a s
  | .stxZpY a => Sys2Proof.Machine.execStxZpY a s
  | .saxZpY a => Sys2Proof.Machine.execSaxZpY a s
  | .tya => Sys2Proof.Machine.execTya s
  | .staAbsY w => Sys2Proof.Machine.execStaAbsY w s
  | .txs => Sys2Proof.Machine.execTxs s
  | .tas w => Sys2Proof.Machine.execTas w s
  | .shy w => Sys2Proof.Machine.execShy w s
  | .staAbsX w => Sys2Proof.Machine.execStaAbsX w s
  | .shx w => Sys2Proof.Machine.execShx w s
  | .shaAbsY w => Sys2Proof.Machine.execShaAbsY w s
  | .ldyImm b => Sys2Proof.Machine.execLdyImm b s
  | .ldaIndX a => Sys2Proof.Machine.execLdaIndX a s
  | .ldxImm b => Sys2Proof.Machine.execLdxImm b s
  | .laxIndX a => Sys2Proof.Machine.execLaxIndX a s
  | .ldyZp a => Sys2Proof.Machine.execLdyZp a s
  | .ldaZp a => Sys2Proof.Machine.execLdaZp a s
  | .ldxZp a => Sys2Proof.Machine.execLdxZp a s
  | .laxZp a => Sys2Proof.Machine.execLaxZp a s
  | .tay => Sys2Proof.Machine.execTay s
  | .ldaImm b => Sys2Proof.Machine.execLdaImm b s
  | .tax => Sys2Proof.Machine.execTax s
  | .lxa b => Sys2Proof.Machine.execLxa b s
  | .ldyAbs w => Sys2Proof.Machine.execLdyAbs w s
  | .ldaAbs w => Sys2Proof.Machine.execLdaAbs w s
  | .ldxAbs w => Sys2Proof.Machine.execLdxAbs w s
  | .laxAbs w => Sys2Proof.Machine.execLaxAbs w s
  | .bcs o => Sys2Proof.Machine.execBcs o s
  | .ldaIndY a => Sys2Proof.Machine.execLdaIndY a s
  | .laxIndY a => Sys2Proof.Machine.execLaxIndY a s
  | .ldyZpX a => Sys2Proof.Machine.execLdyZpX a s
  | .ldaZpX a => Sys2Proof.Machine.execLdaZpX a s
  | .ldxZpY a => Sys2Proof.Machine.execLdxZpY a s
  | .laxZpY a => Sys2Proof.Machine.execLaxZpY a s
  | .clv => Sys2Proof.Machine.execClv s
  | .ldaAbsY w => Sys2Proof.Machine.execLdaAbsY w s
  | .tsx => Sys2Proof.Machine.execTsx s
  | .las w => Sys2Proof.Machine.execLas w s
  | .ldyAbsX w => Sys2Proof.Machine.execLdyAbsX w s
  | .ldaAbsX w => Sys2Proof.Machine.execLdaAbsX w s
  | .ldxAbsY w => Sys2Proof.Machine.execLdxAbsY w s
  | .laxAbsY w => Sys2Proof.Machine.execLaxAbsY w s
  | .cpyImm b => Sys2Proof.Machine.execCpyImm b s
  | .cmpIndX a => Sys2Proof.Machine.execCmpIndX a s
  | .dcpIndX a => Sys2Proof.Machine.execDcpIndX a s
  | .cpyZp a => Sys2Proof.Machine.execCpyZp a s
  | .cmpZp a => Sys2Proof.Machine.execCmpZp a s
  | .decZp a => Sys2Proof.Machine.execDecZp a s
  | .dcpZp a => Sys2Proof.Machine.execDcpZp a s
  | .iny => Sys2Proof.Machine.execIny s
  | .cmpImm b => Sys2Proof.Machine.execCmpImm b s
  | .dex => Sys2Proof.Machine.execDex s
  | .sbx b => Sys2Proof.Machine.execSbx b s
  | .cpyAbs w => Sys2Proof.Machine.execCpyAbs w s
  | .cmpAbs w => Sys2Proof.Machine.execCmpAbs w s
  | .decAbs w => Sys2Proof.Machine.execDecAbs w s
  | .dcpAbs w => Sys2Proof.Machine.execDcpAbs w s
  | .bne o => Sys2Proof.Machine.execBne o s
  | .cmpIndY a => Sys2Proof.Machine.execCmpIndY a s
  | .dcpIndY a => Sys2Proof.Machine.execDcpIndY a s
  | .cmpZpX a => Sys2Proof.Machine.execCmpZpX a s
  | .decZpX a => Sys2Proof.Machine.execDecZpX a s
  | .dcpZpX a => Sys2Proof.Machine.execDcpZpX a s
  | .cld => Sys2Proof.Machine.execCld s
  | .cmpAbsY w => Sys2Proof.Machine.execCmpAbsY w s
  | .dcpAbsY w => Sys2Proof.Machine.execDcpAbsY w s
  | .cmpAbsX w => Sys2Proof.Machine.execCmpAbsX w s
  | .decAbsX w => Sys2Proof.Machine.execDecAbsX w s
  | .dcpAbsX w => Sys2Proof.Machine.execDcpAbsX w s
  | .cpxImm b => Sys2Proof.Machine.execCpxImm b s
  | .sbcIndX a => Sys2Proof.Machine.execSbcIndX a s
  | .iscIndX a => Sys2Proof.Machine.execIscIndX a s
  | .cpxZp a => Sys2Proof.Machine.execCpxZp a s
  | .sbcZp a => Sys2Proof.Machine.execSbcZp a s
  | .incZp a => Sys2Proof.Machine.execIncZp a s
  | .iscZp a => Sys2Proof.Machine.execIscZp a s
  | .inx => Sys2Proof.Machine.execInx s
  | .sbcImm b => Sys2Proof.Machine.execSbcImm b s
  | .usbc b => Sys2Proof.Machine.execUsbc b s
  | .cpxAbs w => Sys2Proof.Machine.execCpxAbs w s
  | .sbcAbs w => Sys2Proof.Machine.execSbcAbs w s
  | .incAbs w => Sys2Proof.Machine.execIncAbs w s
  | .iscAbs w => Sys2Proof.Machine.execIscAbs w s
  | .beq o => Sys2Proof.Machine.execBeq o s
  | .sbcIndY a => Sys2Proof.Machine.execSbcIndY a s
  | .iscIndY a => Sys2Proof.Machine.execIscIndY a s
  | .sbcZpX a => Sys2Proof.Machine.execSbcZpX a s
  | .incZpX a => Sys2Proof.Machine.execIncZpX a s
  | .iscZpX a => Sys2Proof.Machine.execIscZpX a s
  | .sed => Sys2Proof.Machine.execSed s
  | .sbcAbsY w => Sys2Proof.Machine.execSbcAbsY w s
  | .iscAbsY w => Sys2Proof.Machine.execIscAbsY w s
  | .sbcAbsX w => Sys2Proof.Machine.execSbcAbsX w s
  | .incAbsX w => Sys2Proof.Machine.execIncAbsX w s
  | .iscAbsX w => Sys2Proof.Machine.execIscAbsX w s

end Sys2Proof.Machine
end

