-- ==== Sys2Proof/Machine/Cycle.lean ====
section
/-! DEFINITION. The core's one transition (spec/41_dispatch.md R87) and the placing of an instruction where it fetches.
Machine/Step.lean gives them their fixed names. -/

namespace Sys2Proof.Machine

/-- `step()` (R87): nothing when halted; else an NMI entry, an IRQ entry, or one instruction, tried in this order.
A refused instruction leaves no state, so the writes of the interrupt check are undone with it (R110, R197). -/
def runStep (s : State) : Result :=
  if s.halted then .next s
  else
    let s1 := s.pollInputs
    match s1.pendingInterrupt with
    | some kind => .next (s1.interruptEntry kind)
    | none => exec s1.fetch s1

/-- `s` with the instruction whose bits are `w` (numbered as the opcode table does) stored at PC (logs 9, 20). -/
def State.placeAtPc (s : State) (nbits w : Nat) : State :=
  { s with mem := s.mem.writeBytes s.pc (tableBytes nbits w) }

end Sys2Proof.Machine
end

