-- ==== Sys2Proof/Machine/Step.lean ====
section
/-! DEFINITION. One step of the machine, and a state whose next step runs a given instruction. -/

namespace Sys2Proof.Machine

/-- One step (R87). -/
def step (s : State) : Host.Outcome State Fault Refusal := runStep s

/-- `s` with an instruction stored where `step` fetches next. Only memory changes, so the next step runs it unless the
state is halted or takes an interrupt, which no state does right after reset (log 9). -/
def State.withFetchWord (s : State) (nbits w : Nat) : State := s.placeAtPc nbits w

end Sys2Proof.Machine
end

