-- ==== Sys2Proof/Machine/HostInterface.lean ====
section
/-! DEFINITION. What the host does to the core between steps, and what a step returns to it (spec/60_exceptions.md
R216 to R218; spec/70_reset_and_hazards.md R221 to R227; spec/41_dispatch.md R108, R112). -/

namespace Sys2Proof.Machine

/-! ## Loading and reset -/

/-- The launch arguments of power-on reset (R6, R221). -/
structure Launch where
  /-- `INITIAL_MEMORY` -/
  mem : Memory
  /-- `RESET_A` -/
  a : Byte
  /-- `RESET_X` -/
  x : Byte
  /-- `RESET_Y` -/
  y : Byte
  /-- `RESET_NVDZC`: N, V, D, Z, C -/
  n : Bool
  v : Bool
  d : Bool
  z : Bool
  c : Bool
  deriving DecidableEq, Repr

/-- The launch that `State.reset` stands for (logs 1, 2, 3). -/
def Launch.zero : Launch :=
  { mem := [], a := 0, x := 0, y := 0, n := false, v := false, d := false, z := false, c := false }

/-- `PowerOnReset` (R221): every field of R29 at R30's first column. The model's own fields start with the inputs
inactive and nothing drawn (logs 5, 6). -/
def powerOnReset (params : Params) (l : Launch) : State where
  a := l.a
  x := l.x
  y := l.y
  sp := 0xFD
  pc := joinBytes (l.mem.read (resetVector + 1).toNat) (l.mem.read resetVector.toNat)
  n := l.n
  v := l.v
  b := false
  d := l.d
  i := true
  z := l.z
  c := l.c
  mem := l.mem
  cycles := 0
  halted := false
  nmiPending := false
  nmiPrev := false
  iPoll := true
  irqIn := false
  nmiIn := false
  params := params
  draws := 0

/-- `WarmReset` (R222): also from the halted state. The host's input levels, the parameters and the draw count stay as
they are (log 12). -/
def State.warmReset (s : State) : State :=
  { s with
    sp := s.sp - 3
    i := true
    b := false
    pc := s.readWord resetVector
    cycles := 0
    halted := false
    nmiPending := false
    nmiPrev := false
    iPoll := true }

/-- Whether a program's bytes land on an address (R225). -/
def programCovers (p : Program) (addr : Word) : Bool := decide ((addr - p.loadAddress).toNat < p.bytes.length)

/-- The loader (R225): zero fill, the bytes at `load +16 k`, and the entry point in 0xFFFC and 0xFFFD unless the
program itself covers them both (log 10). -/
def programImage (p : Program) : Memory :=
  let m := Memory.writeBytes [] p.loadAddress p.bytes
  if programCovers p resetVector && programCovers p (resetVector + 1) then m else m.writeWord resetVector p.entry

/-! ## Inputs -/

/-- `set_irq(level)`, "only under `INTERRUPT_INPUTS = driven`" (R218, log 13). -/
def State.setIrq (s : State) (level : Bool) : State :=
  if s.params.interruptInputs = .driven then { s with irqIn := level } else s

/-- `set_nmi(level)`, "only under `INTERRUPT_INPUTS = driven`" (R218, log 13). -/
def State.setNmi (s : State) (level : Bool) : State :=
  if s.params.interruptInputs = .driven then { s with nmiIn := level } else s

/-! ## What a step returns -/

/-- The outcomes of R108. -/
inductive StepOutcome where
  /-- an instruction executed -/
  | ran
  /-- an interrupt entry ran -/
  | interrupted (kind : InterruptKind)
  /-- the instruction was a halt pseudo-opcode -/
  | halted
  /-- the core was already halted -/
  | alreadyHalted
  /-- the step was refused (R110) -/
  | refused (r : Refusal)
  deriving DecidableEq, Repr

/-- The pair `(cost, outcome)` that `step()` returns (R106, R108, log 8). A refused step returns cost 0 (R110). -/
def stepReturn (s : State) : Nat × StepOutcome :=
  match step s with
  | .refused r => (0, .refused r)
  | .next t =>
    (t.cycles - s.cycles,
      if s.halted then .alreadyHalted
      else match s.pollInputs.pendingInterrupt with
        | some kind => .interrupted kind
        | none => if t.halted then .halted else .ran)

/-! ## Looking -/

/-- `Decode(pc)`: the descriptor and the operand bytes, read without changing state (R112). -/
def State.decodeAt (s : State) (pc : Word) : Descriptor × List Byte :=
  let d := descriptor (s.read pc)
  (d, s.readBytes (pc + 1) d.mode.operandLength)

/-- The observed window: page numbers, the host's and not the core's, kept in increasing order (R217, log 17). -/
abbrev Window := List Byte

/-- `add_page(p)`, idempotent (R217). -/
def Window.addPage : Window → Byte → Window
  | [], p => [p]
  | q :: w, p => if p.toNat < q.toNat then p :: q :: w else if p = q then q :: w else q :: Window.addPage w p

/-- `remove_page(p)`, idempotent (R217). -/
def Window.removePage (w : Window) (p : Byte) : Window := w.filter (· ≠ p)

/-- `snapshot()` (R216): P shows the seven flags and bit 5 as 1. -/
structure Snapshot where
  a : Byte
  x : Byte
  y : Byte
  sp : Byte
  pc : Word
  p : Byte
  cycles : Nat
  halted : Bool
  /-- the 256 bytes of each observed page, in increasing page order -/
  window : List (Byte × List Byte)
  /-- the decoded next instruction -/
  next : Descriptor × List Byte
  deriving DecidableEq, Repr

/-- The snapshot of a state; it changes nothing (R216). -/
def State.snapshot (s : State) (w : Window) : Snapshot where
  a := s.a
  x := s.x
  y := s.y
  sp := s.sp
  pc := s.pc
  p := s.p
  cycles := s.cycles
  halted := s.halted
  window := w.map fun page => (page, s.readBytes (joinBytes page 0x00) 256)
  next := s.decodeAt s.pc

/-- `read_range(a, n)`: `mem[a +16 k]` for k below n (R218). -/
def State.readRange (s : State) (a : Word) (n : Nat) : List Byte := s.readBytes a n

end Sys2Proof.Machine
end

