-- ==== Sys2Proof/Safety.lean ====
section
/-! DEFINITION. The terms in which statements speak of an instruction: when it executes, what its operand is, and what
every executed instruction does beside its own effect (spec/41_dispatch.md R87 to R94; spec/48_undocumented.md R170,
R172). -/

namespace Sys2Proof.Machine

/-- An instruction of the table executes: it is no halt byte (R88, R172), and it is documented or the policy gives
undocumented opcodes their rules (R170). -/
abbrev Executes (i : Instr) (s : State) : Prop :=
  i.wf = true ∧ i.opcode ∉ s.params.haltOpcodes ∧
    (i.desc.documented = true ∨ s.params.undocPolicy = .nmos)

/-- `src` (R84), resolved with PC past the instruction (R89). -/
def operandSource (i : Instr) (s : State) : Src := (s.advance i).resolve i.operand

/-- `M`: the operand's value, read once (R12, R84). -/
def operandValue (i : Instr) (s : State) : Byte := s.load (operandSource i s)

/-- `ea`, or a branch's target (R12, R82, R84). -/
def operandAddress (i : Instr) (s : State) : Word := (operandSource i s).address

/-- `pcross` (R84, R85). -/
def pageCrossed (i : Instr) (s : State) : Bool := (s.advance i).pageCross i.operand

/-- The address of the next sequential instruction: `pc0 +16 desc.length` (R89). -/
def nextPc (i : Instr) (s : State) : Word := s.pc + BitVec.ofNat 16 i.length

/-- The cycles of an instruction that is no taken branch: the base count and the page-cross penalty (R92, R93). -/
def plainCost (i : Instr) (s : State) : Nat :=
  i.desc.baseCycles + if i.desc.pageCrossPlus1 && pageCrossed i s then 1 else 0

/-- What every executed instruction does beside its own effect, where that leaves PC and I alone: PC past the
instruction, polling uses I as it stands, the cost counted (R89, R91, R206). -/
def afterInstr (i : Instr) (s : State) : State :=
  { s with pc := nextPc i s, iPoll := s.i, cycles := s.cycles + plainCost i s }

/-- `s` is between instructions and takes no interrupt at this boundary (R87, R197). -/
abbrev RunsInstruction (s : State) : Prop := s.halted = false ∧ s.pollInputs.pendingInterrupt = none

/-! ## Which instructions do what to their operand -/

/-- The mnemonics whose rule reads `M` (42 to 45, 48). -/
def readsOperand : List Mnemonic :=
  [.LDA, .LDX, .LDY, .ADC, .SBC, .AND, .ORA, .EOR, .CMP, .CPX, .CPY, .BIT, .INC, .DEC, .ASL, .LSR, .ROL, .ROR,
    .SLO, .RLA, .SRE, .RRA, .LAX, .DCP, .ISC, .ANC, .ALR, .ARR, .SBX, .USBC, .ANE, .LXA, .LAS]

/-- The mnemonics whose rule stores to the operand (42, 44, 45, 48). -/
def storesOperand : List Mnemonic :=
  [.STA, .STX, .STY, .INC, .DEC, .ASL, .LSR, .ROL, .ROR, .SLO, .RLA, .SRE, .RRA, .SAX, .DCP, .ISC, .SHA, .SHX, .SHY,
    .TAS]

/-- The mnemonics that use their effective address as a place to jump to (R86). -/
def jumpsToOperand : List Mnemonic := [.JMP, .JSR]

/-- The eight conditional branches (R148). -/
def branches : List Mnemonic := [.BPL, .BMI, .BVC, .BVS, .BCC, .BCS, .BNE, .BEQ]

/-- The addresses of memory that an executed instruction stores to: its operand's, where that is in memory, or the
stack bytes that it pushes (R116 to R118, R125, R126, R138, R139, R144 to R147, R158, R161, R174 to R181, R189 to
R192). -/
def storedAddresses (i : Instr) (s : State) : List Word :=
  if i.mnemonic ∈ storesOperand then
    match operandSource i s with
    | .addr ea => [ea]
    | _ => []
  else match i.mnemonic with
    | .PHA | .PHP => [s.pushAddress]
    | .JSR => [s.pushAddress, (s.push 0).pushAddress]
    | .BRK => [s.pushAddress, (s.push 0).pushAddress, ((s.push 0).push 0).pushAddress]
    | _ => []

/-- The address that a taken branch's target is compared with for the page penalty (R94). -/
def branchPageBase (i : Instr) (s : State) : Word :=
  match s.params.branchPageRef with
  | .nextPc => nextPc i s
  | .opcodeAddr => s.pc

/-- The state after a conditional branch whose condition is `taken`: 2 cycles; if taken, PC at the target and 1 more,
or 2 more into another page (R94, R148). -/
def afterBranch (i : Instr) (s : State) (taken : Bool) : State :=
  { s with
    pc := if taken then operandAddress i s else nextPc i s
    iPoll := s.i
    cycles := s.cycles + 2 +
      if !taken then 0
      else if highByte (branchPageBase i s) = highByte (operandAddress i s) then 1 else 2 }

/-! ## Runs -/

/-- A run of the machine that goes on: no refusal within `n` steps (R110, R220). -/
def goesOn (s : State) (n : Nat) : Prop :=
  ∃ t, Host.Core.run { State := State, Fault := Fault, Refusal := Refusal, step := step, reset := State.reset } n s
    = .next t

end Sys2Proof.Machine
end

