-- ==== Sys2Proof/Certificates/Slice0/Obligations.lean ====
section
/-! DEFINITION. The statements of this model for the provers, from the numbered rules of spec/. Each is about every
state (every memory, every setting of the parameters, every level of the inputs) unless its hypotheses say otherwise.
An equation `exec i s = .next { afterInstr i s with … }` says the result, that the instruction completes, and its
frame at once: what the braces do not name is as `afterInstr` leaves it, that is, as it was but for PC past the
instruction, `i_poll` and the cycle counter. -/

open Sys2Proof Sys2Proof.Machine

/-! ## Encoding -/

/-- R111: the table has 256 entries, one for each byte in order; each byte has its entry there, and decodes to a
well-formed instruction of its own opcode, with an operand in its entry's addressing mode. -/
def Obligations.EveryByteDecodes : Prop :=
  instructionTable.flatten.map Descriptor.opcode = (List.range 256).map (BitVec.ofNat 8) ∧
  ∀ op b1 b2 : Byte,
    (∃ row ∈ instructionTable, descriptor op ∈ row) ∧ (descriptor op).opcode = op ∧
    (instrOfBytes op b1 b2).opcode = op ∧ (instrOfBytes op b1 b2).wf = true ∧
    (instrOfBytes op b1 b2).operand.mode = (descriptor op).mode

/-- Decoding an encoded well-formed instruction gives it back, with every operand, and the bytes after it. -/
def Obligations.DecodeOfEncode : Prop :=
  ∀ (i : Instr) (rest : List Byte), i.wf = true → decode (encode i ++ rest) = .instr i rest

/-- What decodes is the encoding of what it decodes to: each word has one meaning. -/
def Obligations.EncodeOfDecode : Prop :=
  ∀ (bytes : List Byte) (i : Instr) (rest : List Byte), decode bytes = .instr i rest →
    i.wf = true ∧ encode i ++ rest = bytes

/-- R59, R62, R63: the base cycle count of every opcode, row by row of the opcode map; which opcodes have the "+1 on page
cross" flag; which are documented: the 56 mnemonics, NOP only as 0xEA, 151 opcodes. The spec marks clauses of these
rules as its own (log 19). -/
def Obligations.CyclesAndFlagsOfTheTable : Prop :=
  let cycles : List (List Nat) := [
    [7, 6, 0, 8, 3, 3, 5, 5, 3, 2, 2, 2, 4, 4, 6, 6],
    [2, 5, 0, 8, 4, 4, 6, 6, 2, 4, 2, 7, 4, 4, 7, 7],
    [6, 6, 0, 8, 3, 3, 5, 5, 4, 2, 2, 2, 4, 4, 6, 6],
    [2, 5, 0, 8, 4, 4, 6, 6, 2, 4, 2, 7, 4, 4, 7, 7],
    [6, 6, 0, 8, 3, 3, 5, 5, 3, 2, 2, 2, 3, 4, 6, 6],
    [2, 5, 0, 8, 4, 4, 6, 6, 2, 4, 2, 7, 4, 4, 7, 7],
    [6, 6, 0, 8, 3, 3, 5, 5, 4, 2, 2, 2, 5, 4, 6, 6],
    [2, 5, 0, 8, 4, 4, 6, 6, 2, 4, 2, 7, 4, 4, 7, 7],
    [2, 6, 2, 6, 3, 3, 3, 3, 2, 2, 2, 2, 4, 4, 4, 4],
    [2, 6, 0, 6, 4, 4, 4, 4, 2, 5, 2, 5, 5, 5, 5, 5],
    [2, 6, 2, 6, 3, 3, 3, 3, 2, 2, 2, 2, 4, 4, 4, 4],
    [2, 5, 0, 5, 4, 4, 4, 4, 2, 4, 2, 4, 4, 4, 4, 4],
    [2, 6, 2, 8, 3, 3, 5, 5, 2, 2, 2, 2, 4, 4, 6, 6],
    [2, 5, 0, 8, 4, 4, 6, 6, 2, 4, 2, 7, 4, 4, 7, 7],
    [2, 6, 2, 8, 3, 3, 5, 5, 2, 2, 2, 2, 4, 4, 6, 6],
    [2, 5, 0, 8, 4, 4, 6, 6, 2, 4, 2, 7, 4, 4, 7, 7]
  ]
  (∀ op : Byte, cycles[op.toNat / 16]?.bind (·[op.toNat % 16]?) = some (descriptor op).baseCycles) ∧
  (∀ op : Byte, (descriptor op).pageCrossPlus1 = true ↔
    (descriptor op).mode ∈ [Mode.absoluteX, .absoluteY, .indirectY] ∧
    (descriptor op).mnemonic ∈ [Mnemonic.LDA, .LDX, .LDY, .EOR, .AND, .ORA, .ADC, .SBC, .CMP, .LAX, .LAS, .NOP]) ∧
  (∀ op : Byte, (descriptor op).documented = true ↔
    ((descriptor op).mnemonic = .NOP → op = 0xEA) ∧ (descriptor op).mnemonic ∈
      [Mnemonic.BRK, .ORA, .ASL, .PHP, .BPL, .CLC, .JSR, .AND, .BIT, .ROL, .PLP, .BMI, .SEC, .RTI, .EOR,
      .LSR, .PHA, .JMP, .BVC, .CLI, .RTS, .ADC, .ROR, .PLA, .BVS, .SEI, .STA, .STY, .STX, .DEY, .TXA, .BCC,
      .TYA, .TXS, .LDY, .LDA, .LDX, .TAY, .TAX, .BCS, .CLV, .TSX, .CPY, .CMP, .DEC, .INY, .DEX, .BNE, .CLD,
      .CPX, .SBC, .INC, .INX, .NOP, .BEQ, .SED]) ∧
  (instructionTable.flatten.filter (·.documented)).length = 151

/-- R58: some rows of the opcode map, written out from it. The spec marks clauses of these rules as its own (log 19).
-/
def Obligations.SampleWordsDecode : Prop :=
  decode [0xB1, 0x24] = .instr (.ldaIndY 0x24) [] ∧
  decode [0x8D, 0x34, 0x12] = .instr (.staAbs 0x1234) [] ∧
  decode [0x6C, 0xFF, 0x10] = .instr (.jmpInd 0x10FF) [] ∧
  decode [0xD0, 0xF4] = .instr (.bne 0xF4) [] ∧
  decode [0x0A] = .instr .aslAcc [] ∧
  decode [0x28, 0x00] = .instr .plp [0x00] ∧
  decode [0x9B, 0x00, 0x7F] = .instr (.tas 0x7F00) [] ∧
  decode [0x12] = .instr (.jam 0x12) [] ∧
  decode [0x5C, 0xF0, 0x12] = .instr (.nopAbsX 0x5C 0x12F0) []

/-! ## The step -/

/-- R87, R88: between instructions, with no interrupt taken, a step runs the instruction that the bytes at PC decode
to; the interrupt check's own writes stand. -/
def Obligations.StepRunsDecodedInstruction : Prop :=
  ∀ (s : State) (i : Instr) (rest : List Byte), RunsInstruction s → decode (s.readBytes s.pc 3) = .instr i rest →
    step s = exec i s.pollInputs

/-- An instruction stored by `withFetchWord` is the one that the next step runs (the model's own interface, logs 9
and 20). -/
def Obligations.StoredWordRunsNext : Prop :=
  ∀ (s : State) (nbits w : Nat) (i : Instr), RunsInstruction s → s.mem.wf → decodeTableWord nbits w = some i →
    step (s.withFetchWord nbits w) = exec i (s.withFetchWord nbits w).pollInputs

/-- R17, R112, R216: a snapshot shows the registers, P with bit 5 set and the stored B in bit 4, the bytes of each
observed page in increasing page order, and the decoded next instruction, which is the one that is fetched at PC. The
spec marks clauses of these rules as its own (log 19). -/
def Obligations.SnapshotShowsTheState : Prop :=
  ∀ (s : State) (w : Window), let q := s.snapshot w
    q.a = s.a ∧ q.x = s.x ∧ q.y = s.y ∧ q.sp = s.sp ∧ q.pc = s.pc ∧ q.cycles = s.cycles ∧ q.halted = s.halted ∧
    q.p.toNat = s.n.toNat * 128 + s.v.toNat * 64 + 32 + s.b.toNat * 16 + s.d.toNat * 8 + s.i.toNat * 4
      + s.z.toNat * 2 + s.c.toNat ∧
    q.window.map Prod.fst = w ∧
    (∀ page bytes, (page, bytes) ∈ q.window → bytes.length = 256 ∧
      ∀ k, k < 256 → bytes[k]? = some (s.read (BitVec.ofNat 16 (page.toNat * 256 + k)))) ∧
    q.next.1 = s.fetch.desc ∧ s.read s.pc :: q.next.2 = encode s.fetch

/-! ## Addressing modes -/

/-- R72 to R78: the modes that use no pointer. Zero-page sums wrap mod 256, absolute sums mod 2^16, and only the
absolute indexed modes report a page cross, when the high byte changes. The spec marks clauses of these rules as its
own (log 19). -/
def Obligations.DirectModes : Prop :=
  ∀ (s : State) (b : Byte) (w : Word),
    s.resolve (.immediate b) = .imm b ∧ s.pageCross (.immediate b) = false ∧
    (∃ ea, s.resolve (.zeroPage b) = .addr ea ∧ ea.toNat = b.toNat) ∧ s.pageCross (.zeroPage b) = false ∧
    (∃ ea, s.resolve (.zeroPageX b) = .addr ea ∧ ea.toNat = (b.toNat + s.x.toNat) % 256) ∧
    s.pageCross (.zeroPageX b) = false ∧
    (∃ ea, s.resolve (.zeroPageY b) = .addr ea ∧ ea.toNat = (b.toNat + s.y.toNat) % 256) ∧
    s.pageCross (.zeroPageY b) = false ∧
    s.resolve (.absolute w) = .addr w ∧ s.pageCross (.absolute w) = false ∧
    (∃ ea, s.resolve (.absoluteX w) = .addr ea ∧ ea.toNat = (w.toNat + s.x.toNat) % 65536 ∧
      s.pageCross (.absoluteX w) = decide (ea.toNat / 256 ≠ w.toNat / 256)) ∧
    (∃ ea, s.resolve (.absoluteY w) = .addr ea ∧ ea.toNat = (w.toNat + s.y.toNat) % 65536 ∧
      s.pageCross (.absoluteY w) = decide (ea.toNat / 256 ≠ w.toNat / 256))

/-- R38, R79 to R81: a word is read low byte first, and the modes that read a pointer. JMP's pointer never leaves its
page, zero-page pointers never leave the zero page, and (Indirect),Y adds Y to the word it read. The spec marks clauses
of these rules as its own (log 19). -/
def Obligations.PointerModes : Prop :=
  ∀ (s : State) (b : Byte) (w : Word),
    (s.readWord w).toNat = (s.read (BitVec.ofNat 16 ((w.toNat + 1) % 65536))).toNat * 256 + (s.read w).toNat ∧
    (∃ ea, s.resolve (.indirect w) = .addr ea ∧ s.pageCross (.indirect w) = false ∧
      ea.toNat = (s.read (BitVec.ofNat 16 (w.toNat / 256 * 256 + (w.toNat + 1) % 256))).toNat * 256
        + (s.read w).toNat) ∧
    (∃ ea, s.resolve (.indirectX b) = .addr ea ∧ s.pageCross (.indirectX b) = false ∧
      ea.toNat = (s.read (BitVec.ofNat 16 ((b.toNat + s.x.toNat + 1) % 256))).toNat * 256
        + (s.read (BitVec.ofNat 16 ((b.toNat + s.x.toNat) % 256))).toNat) ∧
    (∃ ea base : Word, s.resolve (.indirectY b) = .addr ea ∧
      base.toNat = (s.read (BitVec.ofNat 16 ((b.toNat + 1) % 256))).toNat * 256
        + (s.read (BitVec.ofNat 16 b.toNat)).toNat ∧
      ea.toNat = (base.toNat + s.y.toNat) % 65536 ∧
      s.pageCross (.indirectY b) = decide (ea.toNat / 256 ≠ base.toNat / 256))

/-- R82: a branch's target is its signed offset from the address of the next instruction, which PC holds when the
resolver has taken the offset byte, mod 2^16. The spec marks clauses of these rules as its own (log 19). -/
def Obligations.BranchTargets : Prop :=
  ∀ (s : State) (o : Byte), ∃ t, s.resolve (.relative o) = .target t ∧ s.pageCross (.relative o) = false ∧
    (t.toNat : Int) = ((s.pc.toNat : Int) + o.toInt) % 65536

/-- R84: "the table gives each mnemonic only modes its rule accepts", so the cases of `Load`, `Store` and `ea` that
the spec says are never applied are not reached (log 11). -/
def Obligations.OperandsFitTheirInstruction : Prop :=
  ∀ (i : Instr) (s : State), i.wf = true →
    (i.mnemonic ∈ readsOperand →
      (∃ b, operandSource i s = .imm b) ∨ operandSource i s = .acc ∨ ∃ ea, operandSource i s = .addr ea) ∧
    (i.mnemonic ∈ storesOperand → operandSource i s = .acc ∨ ∃ ea, operandSource i s = .addr ea) ∧
    (i.mnemonic ∈ jumpsToOperand → ∃ ea, operandSource i s = .addr ea) ∧
    (i.mnemonic ∈ branches → ∃ t, operandSource i s = .target t)

/-! ## Memory and stack -/

/-- R36, R37: a read gives the byte at its address and changes nothing; a write sets its byte and no other, and nothing
but memory. -/
def Obligations.MemoryReadsAndWrites : Prop :=
  ∀ (s : State) (addr : Word) (v : Byte), s.mem.wf →
    (∀ b : Word, (s.write addr v).read b = if b = addr then v else s.read b) ∧
    { s.write addr v with mem := s.mem } = s

/-- Two canonical memories that read the same everywhere are the same list (the model's own representation, log 1). -/
def Obligations.CanonicalMemoriesAgree : Prop :=
  ∀ m m' : Memory, m.wf → m'.wf → (∀ a : Word, m.read a.toNat = m'.read a.toNat) → m = m'

/-- Every step keeps memory canonical, from every state whose memory is (the model's own representation, log 1). -/
def Obligations.StepKeepsMemoryCanonical : Prop :=
  ∀ s t : State, s.mem.wf → step s = .next t → t.mem.wf

/-- R42, R43: push and pull under both stack conventions. The spec marks clauses of these rules as its own (log 19). -/
def Obligations.PushAndPull : Prop :=
  ∀ (s : State) (v : Byte),
    (s.params.stackConvention = .doc →
      s.push v = { s with sp := s.sp - 1 }.write (0x0100 + zext16 (s.sp - 1)) v ∧
      s.pulled = s.read (0x0100 + zext16 s.sp)) ∧
    (s.params.stackConvention = .nmos →
      s.push v = { s.write (0x0100 + zext16 s.sp) v with sp := s.sp - 1 } ∧
      s.pulled = s.read (0x0100 + zext16 (s.sp + 1))) ∧
    s.afterPull = { s with sp := s.sp + 1 } ∧
    (s.mem.wf → (s.push v).pulled = v ∧ (s.push v).afterPull.sp = s.sp)

/-- R44: "stack push/pull only ever touch the stack page even if SP wraps", with SP going mod 256 and the rule's cases at
the ends of the page. -/
def Obligations.StackStaysInItsPage : Prop :=
  ∀ (s : State) (v : Byte), s.mem.wf →
    (∀ a : Word, a.toNat < 0x0100 ∨ 0x01FF < a.toNat → (s.push v).read a = s.read a ∧ a ≠ s.pullAddress) ∧
    (s.push v).sp.toNat = (s.sp.toNat + 255) % 256 ∧ s.afterPull.sp.toNat = (s.sp.toNat + 1) % 256 ∧
    (s.params.stackConvention = .doc → s.sp = 0x00 → (s.push v).sp = 0xFF ∧ (s.push v).read 0x01FF = v) ∧
    (s.params.stackConvention = .doc → s.sp = 0xFF → s.pulled = s.read 0x01FF ∧ s.afterPull.sp = 0x00) ∧
    (s.params.stackConvention = .nmos → s.sp = 0x00 → (s.push v).sp = 0xFF ∧ (s.push v).read 0x0100 = v)

/-! ## Loads, stores, transfers, stack instructions -/

/-- R113 to R115: the loads write their register, and N and Z from it. Covers ldaIndX ldaZp ldaImm ldaAbs ldaIndY ldaZpX
ldaAbsY ldaAbsX, ldxImm ldxZp ldxAbs ldxZpY ldxAbsY, ldyImm ldyZp ldyAbs ldyZpX ldyAbsX. -/
def Obligations.LoadsWriteTheirRegister : Prop :=
  ∀ (i : Instr) (s : State), Executes i s →
    let m := operandValue i s
    (i.mnemonic = .LDA → exec i s = .next { afterInstr i s with a := m, n := m.getLsbD 7, z := m == 0 }) ∧
    (i.mnemonic = .LDX → exec i s = .next { afterInstr i s with x := m, n := m.getLsbD 7, z := m == 0 }) ∧
    (i.mnemonic = .LDY → exec i s = .next { afterInstr i s with y := m, n := m.getLsbD 7, z := m == 0 })

/-- R116 to R118: the stores write one byte at the operand's address and no flag. Covers staIndX staZp staAbs staIndY
staZpX staAbsY staAbsX, stxZp stxAbs stxZpY, styZp styAbs styZpX. -/
def Obligations.StoresWriteMemory : Prop :=
  ∀ (i : Instr) (s : State), Executes i s →
    let ea := (operandAddress i s).toNat
    (i.mnemonic = .STA → exec i s = .next { afterInstr i s with mem := s.mem.write ea s.a }) ∧
    (i.mnemonic = .STX → exec i s = .next { afterInstr i s with mem := s.mem.write ea s.x }) ∧
    (i.mnemonic = .STY → exec i s = .next { afterInstr i s with mem := s.mem.write ea s.y })

/-- R119 to R123. Covers tax tay txa tya tsx. -/
def Obligations.TransfersCopy : Prop :=
  ∀ s : State,
    (Executes .tax s → exec .tax s = .next { afterInstr .tax s with x := s.a, n := s.a.getLsbD 7, z := s.a == 0 }) ∧
    (Executes .tay s → exec .tay s = .next { afterInstr .tay s with y := s.a, n := s.a.getLsbD 7, z := s.a == 0 }) ∧
    (Executes .txa s → exec .txa s = .next { afterInstr .txa s with a := s.x, n := s.x.getLsbD 7, z := s.x == 0 }) ∧
    (Executes .tya s → exec .tya s = .next { afterInstr .tya s with a := s.y, n := s.y.getLsbD 7, z := s.y == 0 }) ∧
    (Executes .tsx s → exec .tsx s = .next { afterInstr .tsx s with x := s.sp, n := s.sp.getLsbD 7, z := s.sp == 0 })

/-- R125, R127: PHA stores A on the stack and changes no flag; PLA loads A from it, and N and Z. Covers pha pla. -/
def Obligations.AccumulatorOnTheStack : Prop :=
  ∀ s : State,
    let p := s.pulled
    (Executes .pha s → exec .pha s =
      .next { afterInstr .pha s with sp := s.sp - 1, mem := s.mem.write s.pushAddress.toNat s.a }) ∧
    (Executes .pla s → exec .pla s =
      .next { afterInstr .pla s with sp := s.sp + 1, a := p, n := p.getLsbD 7, z := p == 0 })

/-- PHP pushes the status with bits 5 and 4 set whatever the stored B; PLP ignores those bits, and polling keeps the I of
before it for one instruction; TXS writes no flag. The spec takes these from general knowledge (R124, R126, R128, R206;
log 19). Covers php plp txs. -/
def Obligations.StatusOnTheStackAndTxs : Prop :=
  ∀ s : State,
    let p := s.pulled
    (Executes .php s → ∃ q : Byte,
      q.toNat = s.n.toNat * 128 + s.v.toNat * 64 + 32 + 16 + s.d.toNat * 8 + s.i.toNat * 4 + s.z.toNat * 2 + s.c.toNat ∧
      exec .php s = .next { afterInstr .php s with sp := s.sp - 1, mem := s.mem.write s.pushAddress.toNat q }) ∧
    (Executes .plp s → exec .plp s =
      .next { afterInstr .plp s with
        sp := s.sp + 1, n := p.getLsbD 7, v := p.getLsbD 6, d := p.getLsbD 3, i := p.getLsbD 2, z := p.getLsbD 1,
        c := p.getLsbD 0 }) ∧
    (Executes .txs s → exec .txs s = .next { afterInstr .txs s with sp := s.x })

/-! ## Arithmetic and logic -/

/-- R99: the binary adder: the sum mod 256, the carry out, signed overflow as a range, N and Z of the result. The spec
marks clauses of these rules as its own (log 19). -/
def Obligations.BinaryAdder : Prop :=
  ∀ (a m : Byte) (c : Bool), let r := addBin a m c
    r.value.toNat = (a.toNat + m.toNat + c.toNat) % 256 ∧
    r.c = decide (255 < a.toNat + m.toNat + c.toNat) ∧
    r.v = decide (a.toInt + m.toInt + c.toNat < -128 ∨ 127 < a.toInt + m.toInt + c.toNat) ∧
    r.n = decide (128 ≤ r.value.toNat) ∧ r.z = decide (r.value.toNat = 0)

/-- R129, R130, with R100 to R103 and R105 on which adder runs; what the adders give is said by BinaryAdder and
DecimalArithmeticIsDecimal. The spec takes the decimal adder from general knowledge (R101, R103; log 19). Covers
adcIndX adcZp adcImm adcAbs adcIndY adcZpX adcAbsY adcAbsX, sbcIndX sbcZp sbcImm sbcAbs sbcIndY sbcZpX sbcAbsY
sbcAbsX. -/
def Obligations.AddAndSubtract : Prop :=
  ∀ (i : Instr) (s : State), Executes i s →
    let m := operandValue i s
    let dec := s.d = true ∧ s.params.decimalMode = .nmos
    let sum := if dec then adcDec s.a m s.c else addBin s.a m s.c
    let diff := if dec then sbcDec s.a m s.c else addBin s.a (~~~m) s.c
    (i.mnemonic = .ADC → exec i s =
      .next { afterInstr i s with a := sum.value, n := sum.n, v := sum.v, z := sum.z, c := sum.c }) ∧
    (i.mnemonic = .SBC → exec i s =
      .next { afterInstr i s with a := diff.value, n := diff.n, v := diff.v, z := diff.z, c := diff.c })

/-- R101, R103: the decimal adders on all operands, those that are no decimal digits too. Addition takes N and V from
the sum `s` before its high digit is corrected, C and the value from the corrected sum `t`, Z from the binary sum;
subtraction takes its four flags from the binary subtraction. On two-digit decimal operands the value is the two-digit
decimal sum or difference, and C the decimal carry or not-borrow (derived). The spec marks these rules as from general
knowledge (log 19). -/
def Obligations.DecimalArithmeticIsDecimal : Prop :=
  (∀ (a m : Byte) (c : Bool),
    let lo := a.toNat % 16 + m.toNat % 16 + c.toNat
    let s := a.toNat / 16 * 16 + m.toNat / 16 * 16 + if 10 ≤ lo then (lo + 6) % 16 + 16 else lo
    let t := if 160 ≤ s then s + 96 else s
    let r := adcDec a m c
    r.value.toNat = t % 256 ∧ r.c = decide (256 ≤ t) ∧ r.n = decide (128 ≤ s % 256) ∧
    r.v = (a.getLsbD 7 == m.getLsbD 7 && a.getLsbD 7 != decide (128 ≤ s % 256)) ∧
    r.z = decide ((a.toNat + m.toNat + c.toNat) % 256 = 0)) ∧
  (∀ (a m : Byte) (c : Bool),
    let lo : Int := a.toNat % 16 - m.toNat % 16 + c.toNat - 1
    let s : Int := a.toNat / 16 * 16 - m.toNat / 16 * 16 + if lo < 0 then (lo - 6) % 16 - 16 else lo
    let t := if s < 0 then s - 96 else s
    ((sbcDec a m c).value.toNat : Int) = t % 256 ∧
    { sbcDec a m c with value := 0 } = { addBin a (~~~m) c with value := 0 }) ∧
  (∀ (x y : Nat) (c : Bool), x < 100 → y < 100 →
    let bcd := fun k : Nat => BitVec.ofNat 8 (k / 10 * 16 + k % 10)
    (adcDec (bcd x) (bcd y) c).value = bcd ((x + y + c.toNat) % 100) ∧
    (adcDec (bcd x) (bcd y) c).c = decide (100 ≤ x + y + c.toNat) ∧
    (sbcDec (bcd x) (bcd y) c).value = bcd ((100 + x + c.toNat - y - 1) % 100) ∧
    (sbcDec (bcd x) (bcd y) c).c = decide (y + 1 ≤ x + c.toNat))

/-- R131 to R133. Covers andIndX andZp andImm andAbs andIndY andZpX andAbsY andAbsX, oraIndX oraZp oraImm oraAbs
oraIndY oraZpX oraAbsY oraAbsX, eorIndX eorZp eorImm eorAbs eorIndY eorZpX eorAbsY eorAbsX. -/
def Obligations.LogicWritesA : Prop :=
  ∀ (i : Instr) (s : State) (r : Byte), Executes i s →
    (i.mnemonic = .AND ∧ r = s.a &&& operandValue i s ∨ i.mnemonic = .ORA ∧ r = s.a ||| operandValue i s ∨
      i.mnemonic = .EOR ∧ r = s.a ^^^ operandValue i s) →
    exec i s = .next { afterInstr i s with a := r, n := r.getLsbD 7, z := r == 0 }

/-- R104, R134 to R136: a compare sets C when the subtraction does not borrow, N and Z from the difference, and no
register. Covers cmpIndX cmpZp cmpImm cmpAbs cmpIndY cmpZpX cmpAbsY cmpAbsX, cpxImm cpxZp cpxAbs, cpyImm cpyZp
cpyAbs. -/
def Obligations.Compares : Prop :=
  ∀ (i : Instr) (s : State), Executes i s →
    let m := operandValue i s
    let compared := fun r : Byte => { afterInstr i s with
      c := decide (m.toNat ≤ r.toNat), z := decide (r = m), n := (r - m).getLsbD 7 }
    (i.mnemonic = .CMP → exec i s = .next (compared s.a)) ∧
    (i.mnemonic = .CPX → exec i s = .next (compared s.x)) ∧
    (i.mnemonic = .CPY → exec i s = .next (compared s.y))

/-- BIT takes N and V from the operand and Z from A & M; A is unchanged. The spec takes this from general knowledge
(R137; log 19). Covers bitZp bitAbs. -/
def Obligations.BitTestsMemory : Prop :=
  ∀ (i : Instr) (s : State), Executes i s → i.mnemonic = .BIT →
    let m := (operandValue i s).toNat
    exec i s = .next { afterInstr i s with
      z := decide (s.a &&& operandValue i s = 0), n := decide (128 ≤ m), v := decide (64 ≤ m % 128) }

/-- R138 to R143: increments and decrements, of memory and of registers, wrap and leave C and V. Covers incZp incZpX
incAbs incAbsX, decZp decZpX decAbs decAbsX, inx iny dex dey. -/
def Obligations.IncrementsAndDecrements : Prop :=
  ∀ (i : Instr) (s : State), Executes i s →
    let ea := (operandAddress i s).toNat
    let flags := fun r : Byte => { afterInstr i s with n := r.getLsbD 7, z := r == 0 }
    let up := fun b : Byte => BitVec.ofNat 8 (b.toNat + 1)
    let down := fun b : Byte => BitVec.ofNat 8 (b.toNat + 255)
    let m := operandValue i s
    (i.mnemonic = .INC → exec i s = .next { flags (up m) with mem := s.mem.write ea (up m) }) ∧
    (i.mnemonic = .DEC → exec i s = .next { flags (down m) with mem := s.mem.write ea (down m) }) ∧
    (i.mnemonic = .INX → exec i s = .next { flags (up s.x) with x := up s.x }) ∧
    (i.mnemonic = .INY → exec i s = .next { flags (up s.y) with y := up s.y }) ∧
    (i.mnemonic = .DEX → exec i s = .next { flags (down s.x) with x := down s.x }) ∧
    (i.mnemonic = .DEY → exec i s = .next { flags (down s.y) with y := down s.y })

/-- R98, R144 to R147: shifts and rotates, on A or on the byte at the operand's address; C takes the bit shifted out.
Covers aslZp aslAcc aslAbs aslZpX aslAbsX, lsrZp lsrAcc lsrAbs lsrZpX lsrAbsX, rolZp rolAcc rolAbs rolZpX rolAbsX,
rorZp rorAcc rorAbs rorZpX rorAbsX. -/
def Obligations.ShiftsAndRotates : Prop :=
  ∀ (i : Instr) (s : State) (r : Byte) (out : Bool), Executes i s →
    let m := (operandValue i s).toNat
    (i.mnemonic = .ASL ∧ r = BitVec.ofNat 8 (2 * m) ∧ out = decide (128 ≤ m) ∨
      i.mnemonic = .LSR ∧ r = BitVec.ofNat 8 (m / 2) ∧ out = decide (m % 2 = 1) ∨
      i.mnemonic = .ROL ∧ r = BitVec.ofNat 8 (2 * m + s.c.toNat) ∧ out = decide (128 ≤ m) ∨
      i.mnemonic = .ROR ∧ r = BitVec.ofNat 8 (m / 2 + 128 * s.c.toNat) ∧ out = decide (m % 2 = 1)) →
    (operandSource i s = .acc →
      exec i s = .next { afterInstr i s with a := r, c := out, n := r.getLsbD 7, z := r == 0 }) ∧
    (operandSource i s ≠ .acc →
      exec i s = .next { afterInstr i s with
        mem := s.mem.write (operandAddress i s).toNat r, c := out, n := r.getLsbD 7, z := r == 0 })

/-! ## Control flow and flags -/

/-- R148 to R156: each branch, taken exactly on its condition, with its cycles. Covers bpl bmi bvc bvs bcc bcs bne beq.
The spec marks clauses of these rules as its own (log 19). -/
def Obligations.BranchesFollowTheirFlag : Prop :=
  ∀ (o : Byte) (s : State),
    (Executes (.bpl o) s → exec (.bpl o) s = .next (afterBranch (.bpl o) s (!s.n))) ∧
    (Executes (.bmi o) s → exec (.bmi o) s = .next (afterBranch (.bmi o) s s.n)) ∧
    (Executes (.bvc o) s → exec (.bvc o) s = .next (afterBranch (.bvc o) s (!s.v))) ∧
    (Executes (.bvs o) s → exec (.bvs o) s = .next (afterBranch (.bvs o) s s.v)) ∧
    (Executes (.bcc o) s → exec (.bcc o) s = .next (afterBranch (.bcc o) s (!s.c))) ∧
    (Executes (.bcs o) s → exec (.bcs o) s = .next (afterBranch (.bcs o) s s.c)) ∧
    (Executes (.bne o) s → exec (.bne o) s = .next (afterBranch (.bne o) s (!s.z))) ∧
    (Executes (.beq o) s → exec (.beq o) s = .next (afterBranch (.beq o) s s.z))

/-- R157 to R159: JMP in both modes, JSR, RTS. Covers jmpAbs jmpInd jsr rts. The spec marks clauses of these rules as
its own (log 19). -/
def Obligations.JumpsAndSubroutines : Prop :=
  ∀ (s : State) (w : Word),
    (Executes (.jmpAbs w) s → exec (.jmpAbs w) s = .next { afterInstr (.jmpAbs w) s with pc := w }) ∧
    (Executes (.jmpInd w) s → exec (.jmpInd w) s = .next { afterInstr (.jmpInd w) s with
      pc := joinBytes (s.read (joinBytes (highByte w) (lowByte w + 1))) (s.read w) }) ∧
    (Executes (.jsr w) s → exec (.jsr w) s = .next { afterInstr (.jsr w) s with
      pc := w
      sp := s.sp - 2
      mem := (s.mem.write s.pushAddress.toNat (highByte (s.pc + 2))).write (s.push 0).pushAddress.toNat
        (lowByte (s.pc + 2)) }) ∧
    (Executes .rts s → exec .rts s = .next { afterInstr .rts s with
      pc := joinBytes (s.read s.afterPull.pullAddress) (s.read s.pullAddress) + 1
      sp := s.sp + 2 })

/-- A subroutine that leaves SP, the two pushed bytes and the convention as JSR left them, whatever else it stores,
returns to the instruction after the JSR, with SP as before it (derived from R158 and R159). The spec marks clauses of
these rules as its own (log 19). -/
def Obligations.ReturnAfterCall : Prop :=
  ∀ (s t u : State) (w : Word), Executes (.jsr w) s → s.mem.wf → exec (.jsr w) s = .next t → Executes .rts u →
    u.sp = t.sp → u.params.stackConvention = s.params.stackConvention →
    (∀ a ∈ [s.pushAddress, (s.push 0).pushAddress], u.read a = t.read a) →
    ∃ r, exec .rts u = .next r ∧ r.pc = s.pc + 3 ∧ r.sp = s.sp ∧ r.mem = u.mem

/-- R161: BRK pushes pc0 + 2 and the status with bits 5 and 4 set, sets I and the stored B, keeps D, and goes to the
address at 0xFFFE, whatever I is. Covers brk. The spec marks clauses of these rules as its own (log 19). -/
def Obligations.BrkEntersItsHandler : Prop :=
  ∀ s : State, Executes .brk s → ∃ p : Byte,
    p.toNat = s.n.toNat * 128 + s.v.toNat * 64 + 32 + 16 + s.d.toNat * 8 + s.i.toNat * 4 + s.z.toNat * 2 + s.c.toNat ∧
    let m1 := s.mem.write s.pushAddress.toNat (highByte (s.pc + 2))
    let m2 := m1.write (s.push 0).pushAddress.toNat (lowByte (s.pc + 2))
    let m3 := m2.write ((s.push 0).push 0).pushAddress.toNat p
    exec .brk s = .next { s with
      sp := s.sp - 3, mem := m3, i := true, b := true, iPoll := true
      pc := joinBytes (m3.read 0xFFFF) (m3.read 0xFFFE), cycles := s.cycles + 7 }

/-- R160: RTI pulls the status, then the address; bits 5 and 4 of the status are ignored, nothing is added to the
address, and polling uses the pulled I at once. Covers rti. The spec marks clauses of these rules as its own (log 19).
-/
def Obligations.RtiRestores : Prop :=
  ∀ s : State, Executes .rti s →
    let p := s.pulled
    exec .rti s = .next { s with
      sp := s.sp + 3
      n := p.getLsbD 7, v := p.getLsbD 6, d := p.getLsbD 3, i := p.getLsbD 2, z := p.getLsbD 1, c := p.getLsbD 0
      iPoll := p.getLsbD 2
      pc := joinBytes (s.read s.afterPull.afterPull.pullAddress) (s.read s.afterPull.pullAddress)
      cycles := s.cycles + 6 }

/-- A handler that leaves SP, the three pushed bytes and the convention as BRK left them, whatever else it stores,
returns by RTI to two past the BRK with N, V, D, I, Z, C and SP as before it (derived from R160, R161 and R207). The
spec marks clauses of these rules as its own (log 19). -/
def Obligations.ReturnAfterBreak : Prop :=
  ∀ s t u : State, Executes .brk s → s.mem.wf → exec .brk s = .next t → Executes .rti u →
    u.sp = t.sp → u.params.stackConvention = s.params.stackConvention →
    (∀ a ∈ [s.pushAddress, (s.push 0).pushAddress, ((s.push 0).push 0).pushAddress], u.read a = t.read a) →
    ∃ r, exec .rti u = .next r ∧ r.pc = s.pc + 2 ∧ r.sp = s.sp ∧ r.n = s.n ∧ r.v = s.v ∧ r.d = s.d ∧ r.i = s.i ∧
      r.z = s.z ∧ r.c = s.c ∧ r.mem = u.mem

/-- R162 to R168: each flag instruction writes its flag and nothing else; after CLI and SEI polling keeps the I of
before (R206). Covers clc sec cli sei cld sed clv. The spec marks clauses of these rules as its own (log 19). -/
def Obligations.FlagInstructions : Prop :=
  ∀ s : State,
    (Executes .clc s → exec .clc s = .next { afterInstr .clc s with c := false }) ∧
    (Executes .sec s → exec .sec s = .next { afterInstr .sec s with c := true }) ∧
    (Executes .cli s → exec .cli s = .next { afterInstr .cli s with i := false }) ∧
    (Executes .sei s → exec .sei s = .next { afterInstr .sei s with i := true }) ∧
    (Executes .cld s → exec .cld s = .next { afterInstr .cld s with d := false }) ∧
    (Executes .sed s → exec .sed s = .next { afterInstr .sed s with d := true }) ∧
    (Executes .clv s → exec .clv s = .next { afterInstr .clv s with v := false })

/-- R169, R173: every NOP row changes nothing but PC, the polling latch and the cycle counter. Covers nop nopImm nopZp
nopZpX nopAbs nopAbsX. The spec marks clauses of these rules as its own (log 19). -/
def Obligations.NopsOnlyAdvance : Prop :=
  ∀ (i : Instr) (s : State), Executes i s → i.mnemonic = .NOP → exec i s = .next (afterInstr i s)

/-! ## Halting and refusing -/

/-- R172 (with R88): a halt byte, whatever the table says of it, sets `halted` and leaves PC one past it, and changes
nothing else; a JAM byte outside the halt set is refused. Covers jam. The spec marks clauses of these rules as its own
(log 19). -/
def Obligations.HaltBytesHalt : Prop :=
  ∀ (i : Instr) (s : State), i.wf = true →
    (i.opcode ∈ s.params.haltOpcodes → exec i s = .next { s with halted := true, pc := s.pc + 1 }) ∧
    (i.mnemonic = .JAM → i.opcode ∉ s.params.haltOpcodes → exec i s = .refused (.undocumentedRefused i.opcode))

/-- The halted state is final: however often the machine steps, it stays the same, and no interrupt is taken (R87,
R209). The spec marks clauses of these rules as its own (log 19). -/
def Obligations.HaltedIsFinal : Prop :=
  ∀ (s : State) (k : Nat), s.halted = true →
    Host.Core.run
      { State := State, Fault := Fault, Refusal := Refusal, step := step, reset := State.reset } k s = .next s

/-- Exactly when an instruction is refused, and with what reason; in every other case it answers a next state. Refusals
arise for undocumented opcodes only (R110, R170, R172, R184, R189 to R192). The spec marks clauses of these rules as
its own (log 19). -/
def Obligations.RefusalsExactly : Prop :=
  ∀ (i : Instr) (s : State), i.wf = true →
    let dec := s.d = true ∧ s.params.decimalMode = .nmos
    (∀ r, exec i s = .refused r ↔
      i.opcode ∉ s.params.haltOpcodes ∧ i.desc.documented = false ∧
      ((s.params.undocPolicy = .refuse ∨ i.mnemonic = .JAM) ∧ r = .undocumentedRefused i.opcode ∨
        s.params.undocPolicy = .nmos ∧ i.mnemonic ∈ [Mnemonic.SHA, .SHX, .SHY, .TAS] ∧ pageCrossed i s = true ∧
          r = .unstableStore i.opcode ∨
        s.params.undocPolicy = .nmos ∧ i.mnemonic = .ARR ∧ dec ∧ r = .decimalArr)) ∧
    ((∀ r, exec i s ≠ .refused r) → ∃ t, exec i s = .next t)

/-! ## Undocumented operations -/

/-- R174 to R177, R180, R181: the combined read-modify-write operations. Each stores its intermediate result at the
operand's address; SLO, RLA and SRE then write A, RRA and ISC go through the adder that D selects, DCP compares.
Covers, for each of slo rla sre rra dcp isc, the forms IndX Zp Abs IndY ZpX AbsY AbsX. The spec marks clauses of these
rules as its own (log 19). -/
def Obligations.CombinedReadModifyWrite : Prop :=
  ∀ (i : Instr) (s : State), Executes i s →
    let m := (operandValue i s).toNat
    let left := BitVec.ofNat 8 (2 * m)
    let leftC := BitVec.ofNat 8 (2 * m + s.c.toNat)
    let right := BitVec.ofNat 8 (m / 2)
    let rightC := BitVec.ofNat 8 (m / 2 + 128 * s.c.toNat)
    let up := BitVec.ofNat 8 (m + 1)
    let down := BitVec.ofNat 8 (m + 255)
    let dec := s.d = true ∧ s.params.decimalMode = .nmos
    let stored := fun r : Byte => { afterInstr i s with mem := s.mem.write (operandAddress i s).toNat r }
    let logic := fun (r a : Byte) (c : Bool) =>
      { stored r with a := a, c := c, n := a.getLsbD 7, z := a == 0 }
    let added := fun (r : Byte) (q : AluResult) =>
      { stored r with a := q.value, n := q.n, v := q.v, z := q.z, c := q.c }
    let bit0 := decide (m % 2 = 1)
    (i.mnemonic = .SLO → exec i s = .next (logic left (s.a ||| left) (decide (128 ≤ m)))) ∧
    (i.mnemonic = .RLA → exec i s = .next (logic leftC (s.a &&& leftC) (decide (128 ≤ m)))) ∧
    (i.mnemonic = .SRE → exec i s = .next (logic right (s.a ^^^ right) bit0)) ∧
    (i.mnemonic = .RRA → exec i s = .next (added rightC
      (if dec then adcDec s.a rightC bit0 else addBin s.a rightC bit0))) ∧
    (i.mnemonic = .DCP → exec i s = .next { stored down with
      c := decide (down.toNat ≤ s.a.toNat), z := decide (s.a = down), n := (s.a - down).getLsbD 7 }) ∧
    (i.mnemonic = .ISC → exec i s = .next (added up
      (if dec then sbcDec s.a up s.c else addBin s.a (~~~up) s.c)))

/-- R178, R179, R193: SAX stores A & X; LAX loads A and X; LAS loads A, X and SP with M & SP. Covers saxIndX saxZp
saxAbs saxZpY, laxIndX laxZp laxAbs laxIndY laxZpY laxAbsY, las. The spec marks clauses of these rules as its own (log
19). -/
def Obligations.CombinedLoadsAndStores : Prop :=
  ∀ (i : Instr) (s : State), Executes i s →
    let m := operandValue i s
    let v := m &&& s.sp
    (i.mnemonic = .SAX → exec i s =
      .next { afterInstr i s with mem := s.mem.write (operandAddress i s).toNat (s.a &&& s.x) }) ∧
    (i.mnemonic = .LAX → exec i s = .next { afterInstr i s with a := m, x := m, n := m.getLsbD 7, z := m == 0 }) ∧
    (i.mnemonic = .LAS → exec i s =
      .next { afterInstr i s with a := v, x := v, sp := v, n := v.getLsbD 7, z := v == 0 })

/-- R182 to R186: ANC, ALR, SBX, USBC, and ARR with its own flags and its refusal in decimal mode. Covers anc alr arr
sbx usbc. The spec marks clauses of these rules as its own (log 19). -/
def Obligations.ImmediateCombined : Prop :=
  ∀ (s : State) (op b : Byte),
    let v := s.a &&& b
    let h := BitVec.ofNat 8 (v.toNat / 2)
    let r := BitVec.ofNat 8 (v.toNat / 2 + 128 * s.c.toNat)
    let t := s.a &&& s.x
    let dec := s.d = true ∧ s.params.decimalMode = .nmos
    let diff := if dec then sbcDec s.a b s.c else addBin s.a (~~~b) s.c
    (Executes (.anc op b) s → exec (.anc op b) s =
      .next { afterInstr (.anc op b) s with a := v, n := v.getLsbD 7, z := v == 0, c := v.getLsbD 7 }) ∧
    (Executes (.alr b) s → exec (.alr b) s =
      .next { afterInstr (.alr b) s with a := h, n := false, z := h == 0, c := decide (v.toNat % 2 = 1) }) ∧
    (Executes (.arr b) s → exec (.arr b) s =
      if dec then .refused .decimalArr
      else .next { afterInstr (.arr b) s with
        a := r, n := s.c, z := r == 0, c := r.getLsbD 6, v := r.getLsbD 6 != r.getLsbD 5 }) ∧
    (Executes (.sbx b) s → exec (.sbx b) s =
      .next { afterInstr (.sbx b) s with
        x := t - b, c := decide (b.toNat ≤ t.toNat), n := (t - b).getLsbD 7, z := t - b == 0 }) ∧
    (Executes (.usbc b) s → exec (.usbc b) s =
      .next { afterInstr (.usbc b) s with a := diff.value, n := diff.n, v := diff.v, z := diff.z, c := diff.c })

/-- R187, R188: ANE and LXA with a fresh draw, whatever its value (log 6). Covers ane lxa. The spec marks clauses of
these rules as its own (log 19). -/
def Obligations.MagicOperations : Prop :=
  ∀ (s : State) (b : Byte),
    let v := (s.a ||| Config.magic s.draws) &&& s.x &&& b
    let t := (s.a ||| Config.magic s.draws) &&& b
    (Executes (.ane b) s → exec (.ane b) s =
      .next { afterInstr (.ane b) s with a := v, n := v.getLsbD 7, z := v == 0, draws := s.draws + 1 }) ∧
    (Executes (.lxa b) s → exec (.lxa b) s =
      .next { afterInstr (.lxa b) s with a := t, x := t, n := t.getLsbD 7, z := t == 0, draws := s.draws + 1 })

/-- R189 to R192: the unstable stores on the page of their base, with H1 one more than the base's high byte, and their
refusal on a page cross. Covers shaAbsY shaIndY shx shy tas. The spec marks clauses of these rules as its own (log 19).
-/
def Obligations.UnstableStores : Prop :=
  ∀ (s : State) (a : Byte) (w : Word),
    let at1 := fun (base : Word) (index v : Byte) =>
      s.mem.write (base + zext16 index).toNat (v &&& (highByte base + 1))
    (∀ i, Executes i s → i.mnemonic ∈ [Mnemonic.SHA, .SHX, .SHY, .TAS] → pageCrossed i s = true →
      exec i s = .refused (.unstableStore i.opcode)) ∧
    (Executes (.shaAbsY w) s → pageCrossed (.shaAbsY w) s = false → exec (.shaAbsY w) s =
      .next { afterInstr (.shaAbsY w) s with mem := at1 w s.y (s.a &&& s.x) }) ∧
    (Executes (.shaIndY a) s → pageCrossed (.shaIndY a) s = false → exec (.shaIndY a) s =
      .next { afterInstr (.shaIndY a) s with mem := at1 (s.zeroPagePointer a) s.y (s.a &&& s.x) }) ∧
    (Executes (.shx w) s → pageCrossed (.shx w) s = false → exec (.shx w) s =
      .next { afterInstr (.shx w) s with mem := at1 w s.y s.x }) ∧
    (Executes (.shy w) s → pageCrossed (.shy w) s = false → exec (.shy w) s =
      .next { afterInstr (.shy w) s with mem := at1 w s.x s.y }) ∧
    (Executes (.tas w) s → pageCrossed (.tas w) s = false → exec (.tas w) s =
      .next { afterInstr (.tas w) s with sp := s.a &&& s.x, mem := at1 w s.y (s.a &&& s.x) })

/-! ## Interrupts and reset -/

/-- R197, R203, R204: what the interrupt check latches and what it answers: an NMI edge or a latched NMI first, then an
unmasked IRQ level; tied inputs read inactive. The spec marks clauses of these rules as its own (log 19). -/
def Obligations.InterruptCheck : Prop :=
  ∀ s : State,
    let driven := s.params.interruptInputs = .driven
    let nmi := s.nmiPending = true ∨ driven ∧ s.nmiIn = true ∧ s.nmiPrev = false
    let irq := driven ∧ s.irqIn = true ∧ s.iPoll = false
    s.pollInputs = { s with nmiPending := decide nmi, nmiPrev := decide (driven ∧ s.nmiIn = true) } ∧
    s.pollInputs.pendingInterrupt = if nmi then some .nmi else if irq then some .irq else none

/-- R198 to R200: an interrupt entry is a step of its own: PC and the status with bit 4 = 0 are pushed, I and `i_poll`
set, D and the stored B kept, PC loaded from the kind's vector, 7 cycles counted; NMI clears its latch. The spec marks
clauses of these rules as its own (log 19). -/
def Obligations.InterruptEntrySequence : Prop :=
  ∀ (s : State) (k : InterruptKind), s.halted = false → s.pollInputs.pendingInterrupt = some k → ∃ p : Byte,
    p.toNat = s.n.toNat * 128 + s.v.toNat * 64 + 32 + s.d.toNat * 8 + s.i.toNat * 4 + s.z.toNat * 2 + s.c.toNat ∧
    let vector : Nat := if k = .nmi then 0xFFFA else 0xFFFE
    let m1 := s.mem.write s.pushAddress.toNat (highByte s.pc)
    let m2 := m1.write (s.push 0).pushAddress.toNat (lowByte s.pc)
    let m3 := m2.write ((s.push 0).push 0).pushAddress.toNat p
    step s = .next { s.pollInputs with
      sp := s.sp - 3, mem := m3, i := true, iPoll := true
      nmiPending := decide (k = .irq) && s.pollInputs.nmiPending
      pc := joinBytes (m3.read (vector + 1)) (m3.read vector), cycles := s.cycles + 7 }

/-- An NMI that stays active is taken once. Right after its entry no interrupt is pending, since the edge is used up and
the entry masks IRQ; where the input is driven and still active, the latch is clear and the level remembered, and that
stays so at every boundary of any run of steps from there, so none of them enters NMI (derived from R198, R203 and
R205). The spec marks clauses of these rules as its own (log 19). -/
def Obligations.HeldNmiIsTakenOnce : Prop :=
  let held := fun s : State =>
    s.nmiPending = false ∧ s.nmiPrev = true ∧ s.nmiIn = true ∧ s.params.interruptInputs = .driven
  (∀ s t : State, s.halted = false → s.pollInputs.pendingInterrupt = some .nmi → step s = .next t →
    t.pollInputs.pendingInterrupt = none ∧
    (s.nmiIn = true → s.params.interruptInputs = .driven → held t)) ∧
  (∀ (s t : State) (k : Nat), held s →
    Host.Core.run
      { State := State, Fault := Fault, Refusal := Refusal, step := step, reset := State.reset } k s = .next t →
    held t ∧ t.pollInputs.pendingInterrupt ≠ some .nmi)

/-- R206: `i_poll` after every executed instruction, after an interrupt entry, and after either reset. The spec marks
clauses of these rules as its own (log 19). -/
def Obligations.PollingLatch : Prop :=
  (∀ (i : Instr) (s t : State), Executes i s → exec i s = .next t →
    t.iPoll = if i.mnemonic ∈ [Mnemonic.CLI, .SEI, .PLP] then s.i else t.i) ∧
  (∀ (s : State) (k : InterruptKind), (s.interruptEntry k).iPoll = true) ∧
  (∀ (p : Params) (l : Launch), (powerOnReset p l).iPoll = true) ∧
  (∀ s : State, s.warmReset.iPoll = true)

/-- R221: power-on reset on any launch arguments; `State.reset` is power-on reset under the default parameters with
zero launch arguments, the zeros being the model's choice (logs 1, 2, 3). The spec marks clauses of these rules as its
own (log 19). -/
def Obligations.PowerOnReset : Prop :=
  (∀ (p : Params) (l : Launch), let s := powerOnReset p l
    s.mem = l.mem ∧ s.a = l.a ∧ s.x = l.x ∧ s.y = l.y ∧
    s.n = l.n ∧ s.v = l.v ∧ s.d = l.d ∧ s.z = l.z ∧ s.c = l.c ∧ s.i = true ∧ s.b = false ∧ s.sp = 0xFD ∧
    s.pc = s.readWord 0xFFFC ∧ s.cycles = 0 ∧ s.halted = false ∧ s.nmiPending = false ∧ s.nmiPrev = false ∧
    s.iPoll = true ∧ s.params = p) ∧
  State.reset = powerOnReset Params.default Launch.zero ∧ State.reset.mem.wf ∧ Params.default.wf

/-- R222: warm reset, from any state, the halted one too. The spec marks clauses of these rules as its own (log 19). -/
def Obligations.WarmReset : Prop :=
  ∀ s : State, s.warmReset = { s with
    sp := s.sp - 3, i := true, b := false, pc := s.readWord 0xFFFC, cycles := 0, halted := false
    nmiPending := false, nmiPrev := false, iPoll := true }

/-- R225: the loader's image reads as the program's bytes where they were placed, as the entry point in the reset
vector unless the program covers it, and as zero elsewhere. What it does when the program covers half the vector is the
model's choice (log 10). The spec marks clauses of these rules as its own (log 19). -/
def Obligations.LoaderImage : Prop :=
  ∀ (p : Program) (a : Word), p.wf →
    let k := (a - p.loadAddress).toNat
    let covered := programCovers p 0xFFFC = true ∧ programCovers p 0xFFFD = true
    (programImage p).read a.toNat =
      if ¬covered ∧ a = 0xFFFC then lowByte p.entry
      else if ¬covered ∧ a = 0xFFFD then highByte p.entry
      else p.bytes.getD k 0

/-! ## The whole machine -/

/-- Every byte of memory that an instruction does not store to reads as before; the addresses stored to are computed
from the operand or the stack (`storedAddresses`), and most instructions have none. -/
def Obligations.MemoryFrame : Prop :=
  ∀ (i : Instr) (s t : State), i.wf = true → s.mem.wf → exec i s = .next t →
    ∀ a : Word, a ∉ storedAddresses i s → t.read a = s.read a

/-- Which instructions can change A, X, Y and SP (the writer columns of R13 and R16). The spec marks clauses of these
rules as its own (log 19). -/
def Obligations.RegisterWriters : Prop :=
  ∀ (i : Instr) (s t : State), i.wf = true → exec i s = .next t →
    (t.a ≠ s.a → i.mnemonic ∈ [Mnemonic.LDA, .PLA, .TXA, .TYA, .ADC, .SBC, .AND, .ORA, .EOR, .SLO, .RLA, .SRE, .RRA,
        .LAX, .ISC, .ANC, .ALR, .ARR, .USBC, .ANE, .LXA, .LAS] ∨
      i.mnemonic ∈ [Mnemonic.ASL, .LSR, .ROL, .ROR] ∧ i.operand = .accumulator) ∧
    (t.x ≠ s.x → i.mnemonic ∈ [Mnemonic.LDX, .TAX, .TSX, .INX, .DEX, .LAX, .SBX, .LXA, .LAS]) ∧
    (t.y ≠ s.y → i.mnemonic ∈ [Mnemonic.LDY, .TAY, .INY, .DEY]) ∧
    (t.sp ≠ s.sp → i.mnemonic ∈ [Mnemonic.TXS, .PHA, .PHP, .PLA, .PLP, .JSR, .RTS, .RTI, .BRK, .TAS, .LAS])

/-- Which instructions can change each flag (R18 and the writer column of R19, with the undocumented operations that
R19 names). N and Z are said by the instructions that cannot change them. The spec marks clauses of these rules as its
own (log 19). -/
def Obligations.FlagWriters : Prop :=
  ∀ (i : Instr) (s t : State), i.wf = true → exec i s = .next t →
    (t.n ≠ s.n ∨ t.z ≠ s.z → i.mnemonic ∉ [Mnemonic.STA, .STX, .STY, .TXS, .PHA, .PHP, .BPL, .BMI, .BVC, .BVS, .BCC, .BCS,
      .BNE, .BEQ, .JMP, .JSR, .RTS, .BRK, .CLC, .SEC, .CLI, .SEI, .CLD, .SED, .CLV, .NOP, .JAM, .SAX, .SHA, .SHX, .SHY,
      .TAS]) ∧
    (t.v ≠ s.v → i.mnemonic ∈ [Mnemonic.ADC, .SBC, .BIT, .CLV, .PLP, .RTI, .RRA, .ISC, .ARR, .USBC]) ∧
    (t.b ≠ s.b → i.mnemonic = .BRK ∧ t.b = true) ∧
    (t.d ≠ s.d → i.mnemonic ∈ [Mnemonic.SED, .CLD, .PLP, .RTI]) ∧
    (t.i ≠ s.i → i.mnemonic ∈ [Mnemonic.SEI, .CLI, .PLP, .RTI, .BRK]) ∧
    (t.c ≠ s.c → i.mnemonic ∈ [Mnemonic.ADC, .SBC, .CMP, .CPX, .CPY, .ASL, .LSR, .ROL, .ROR, .CLC, .SEC, .PLP, .RTI,
      .SLO, .RLA, .SRE, .RRA, .DCP, .ISC, .ANC, .ALR, .ARR, .SBX, .USBC])

/-- No step changes the parameters or the host's input levels, un-halts the core, or takes back a cycle or a draw
(derived from R22, R23, R26 and R28; logs 4, 5, 6). -/
def Obligations.StepKeepsSettings : Prop :=
  ∀ s t : State, step s = .next t →
    t.params = s.params ∧ t.irqIn = s.irqIn ∧ t.nmiIn = s.nmiIn ∧ (s.halted = true → t.halted = true) ∧
    s.cycles ≤ t.cycles ∧ s.draws ≤ t.draws

/-- R106, with R108: the cost that `step()` returns is what it adds to the counter: 0 for a step that halts or finds the
core halted, 7 for an interrupt entry, and 2 to 8 for an instruction that ran. That the returned cost is computed as
the rise of the counter is the model's choice (`stepReturn`, log 8); so the statement's content is that the counter
never falls, and by how much it rises with each outcome. -/
def Obligations.StepCosts : Prop :=
  ∀ s t : State, step s = .next t → t.cycles = s.cycles + (stepReturn s).1 ∧
    ((stepReturn s).2 = .alreadyHalted ∧ s.halted = true ∧ (stepReturn s).1 = 0 ∨
      (stepReturn s).2 = .halted ∧ s.halted = false ∧ t.halted = true ∧ (stepReturn s).1 = 0 ∨
      (∃ k, (stepReturn s).2 = .interrupted k ∧ s.pollInputs.pendingInterrupt = some k) ∧ (stepReturn s).1 = 7 ∨
      (stepReturn s).2 = .ran ∧ RunsInstruction s ∧ t.halted = false ∧
        2 ≤ (stepReturn s).1 ∧ (stepReturn s).1 ≤ 8)

/-- No step depends on the stored B or on the cycle counter: two states that differ only there take steps that differ
only there (R20, R212). -/
def Obligations.BreakAndCyclesAreUnobserved : Prop :=
  ∀ (s : State) (b : Bool) (k : Nat),
    match step s, step { s with b := b, cycles := k } with
    | .next t, .next u => u = { t with b := u.b, cycles := u.cycles } ∧ u.cycles + s.cycles = t.cycles + k
    | .refused r, .refused q => r = q
    | _, _ => False

/-- R217, R218: the host's operations between steps. A page is in the window exactly when it was added and not removed,
and both operations are idempotent and keep the order; `read_range(a, n)` gives `mem[a + k]` for k below n; driven
inputs take the level that the host sets, and the next boundary answers it: an NMI level that was inactive before, or
an IRQ level that `i_poll` lets through where no NMI comes first. Under tied inputs setting a level does nothing, which
is the model's inference (log 13). The spec marks clauses of these rules as its own (log 19). -/
def Obligations.HostOperations : Prop :=
  (∀ (w : Window) (p q : Byte),
    (q ∈ w.addPage p ↔ q = p ∨ q ∈ w) ∧ (q ∈ w.removePage p ↔ q ∈ w ∧ q ≠ p) ∧
    (w.addPage p).addPage p = w.addPage p ∧ (w.removePage p).removePage p = w.removePage p ∧
    (strictlyRising w → strictlyRising (w.addPage p) ∧ strictlyRising (w.removePage p))) ∧
  (∀ (s : State) (a : Word) (n : Nat), (s.readRange a n).length = n ∧
    ∀ k, k < n → (s.readRange a n)[k]? = some (s.read (BitVec.ofNat 16 (a.toNat + k)))) ∧
  (∀ (s : State) (level : Bool), s.params.interruptInputs = .driven →
    s.setIrq level = { s with irqIn := level } ∧ s.setNmi level = { s with nmiIn := level } ∧
    (s.nmiPrev = false → (s.setNmi true).pollInputs.pendingInterrupt = some .nmi) ∧
    (s.nmiPending = false → s.nmiIn = s.nmiPrev →
      (s.setIrq level).pollInputs.pendingInterrupt = if level = true ∧ s.iPoll = false then some .irq else none)) ∧
  (∀ (s : State) (level : Bool), s.params.interruptInputs = .tiedInactive → s.setIrq level = s ∧ s.setNmi level = s)
end

