-- ==== Sys2Proof/Laws/Decode.lean ====
section
/-! SUPPORT. The tables of the decoder are complete, and its byte helpers undo each other. -/

namespace Sys2Proof.Laws

/-- The Instruction Table has 16 rows of 16 entries ("exactly 256 entries", spec/30_encoding.md R61). -/
theorem instructionTable_full : instructionTable.length = 16 ∧ ∀ row ∈ instructionTable, row.length = 16 := by decide

/-- So has the decoder's table of formers. -/
theorem formers_full : formers.map List.length = List.replicate 16 16 := rfl

theorem toNat_joinBytes (hi lo : Byte) : (joinBytes hi lo).toNat = hi.toNat * 256 + lo.toNat := by
  have := lo.isLt
  rw [joinBytes, BitVec.toNat_append, Nat.shiftLeft_eq, Nat.or_comm, ← Nat.shiftLeft_eq, Nat.or_comm]
  rw [← Nat.shiftLeft_add_eq_or_of_lt (by omega), Nat.shiftLeft_eq]

theorem toNat_highByte (w : Word) : (highByte w).toNat = w.toNat / 256 := by
  have := w.isLt
  simp [highByte, BitVec.extractLsb'_toNat, Nat.shiftRight_eq_div_pow]
  omega

theorem toNat_lowByte (w : Word) : (lowByte w).toNat = w.toNat % 256 := by
  simp [lowByte, BitVec.extractLsb'_toNat]

@[simp] theorem highByte_joinBytes (hi lo : Byte) : highByte (joinBytes hi lo) = hi := by
  apply BitVec.eq_of_toNat_eq
  have := lo.isLt
  rw [toNat_highByte, toNat_joinBytes]
  omega

@[simp] theorem lowByte_joinBytes (hi lo : Byte) : lowByte (joinBytes hi lo) = lo := by
  apply BitVec.eq_of_toNat_eq
  have := lo.isLt
  rw [toNat_lowByte, toNat_joinBytes]
  omega

@[simp] theorem joinBytes_high_low (w : Word) : joinBytes (highByte w) (lowByte w) = w := by
  apply BitVec.eq_of_toNat_eq
  rw [toNat_joinBytes, toNat_highByte, toNat_lowByte]
  omega

@[simp] theorem toNat_zext16 (b : Byte) : (zext16 b).toNat = b.toNat := by
  have := b.isLt
  simp only [zext16, BitVec.toNat_setWidth]
  omega

end Sys2Proof.Laws
end

