-- ==== Sys2Proof/Laws/Exec.lean ====
section
/-! SUPPORT. What `exec` can answer, said once: every arm is `runInstr` with the handler of its mnemonic, and `runInstr`
has three outcomes. Later proofs cite these and a handler instead of unfolding `exec`. -/

namespace Sys2Proof.Machine

/-- The handler of each mnemonic (spec/41_dispatch.md R90). -/
def handlerOf : Mnemonic → Handler
  | .BRK => handleBrk
  | .ORA => handleOra
  | .JAM => handleJam
  | .SLO => handleSlo
  | .NOP => handleNop
  | .ASL => handleAsl
  | .PHP => handlePhp
  | .ANC => handleAnc
  | .BPL => handleBpl
  | .CLC => handleClc
  | .JSR => handleJsr
  | .AND => handleAnd
  | .RLA => handleRla
  | .BIT => handleBit
  | .ROL => handleRol
  | .PLP => handlePlp
  | .BMI => handleBmi
  | .SEC => handleSec
  | .RTI => handleRti
  | .EOR => handleEor
  | .SRE => handleSre
  | .LSR => handleLsr
  | .PHA => handlePha
  | .ALR => handleAlr
  | .JMP => handleJmp
  | .BVC => handleBvc
  | .CLI => handleCli
  | .RTS => handleRts
  | .ADC => handleAdc
  | .RRA => handleRra
  | .ROR => handleRor
  | .PLA => handlePla
  | .ARR => handleArr
  | .BVS => handleBvs
  | .SEI => handleSei
  | .STA => handleSta
  | .SAX => handleSax
  | .STY => handleSty
  | .STX => handleStx
  | .DEY => handleDey
  | .TXA => handleTxa
  | .ANE => handleAne
  | .BCC => handleBcc
  | .SHA => handleSha
  | .TYA => handleTya
  | .TXS => handleTxs
  | .TAS => handleTas
  | .SHY => handleShy
  | .SHX => handleShx
  | .LDY => handleLdy
  | .LDA => handleLda
  | .LDX => handleLdx
  | .LAX => handleLax
  | .TAY => handleTay
  | .TAX => handleTax
  | .LXA => handleLxa
  | .BCS => handleBcs
  | .CLV => handleClv
  | .TSX => handleTsx
  | .LAS => handleLas
  | .CPY => handleCpy
  | .CMP => handleCmp
  | .DCP => handleDcp
  | .DEC => handleDec
  | .INY => handleIny
  | .DEX => handleDex
  | .SBX => handleSbx
  | .BNE => handleBne
  | .CLD => handleCld
  | .CPX => handleCpx
  | .SBC => handleSbc
  | .ISC => handleIsc
  | .INC => handleInc
  | .INX => handleInx
  | .USBC => handleUsbc
  | .BEQ => handleBeq
  | .SED => handleSed

theorem mnemonic_jam : ∀ k : Byte, [0x02, 0x12, 0x22, 0x32, 0x42, 0x52, 0x62, 0x72, 0x92, 0xB2, 0xD2, 0xF2].contains k = true →
    (descriptor k).mnemonic = .JAM := by decide

theorem mnemonic_nopZp : ∀ k : Byte, [0x04, 0x44, 0x64].contains k = true →
    (descriptor k).mnemonic = .NOP := by decide

theorem mnemonic_anc : ∀ k : Byte, [0x0B, 0x2B].contains k = true →
    (descriptor k).mnemonic = .ANC := by decide

theorem mnemonic_nopZpX : ∀ k : Byte, [0x14, 0x34, 0x54, 0x74, 0xD4, 0xF4].contains k = true →
    (descriptor k).mnemonic = .NOP := by decide

theorem mnemonic_nop : ∀ k : Byte, [0x1A, 0x3A, 0x5A, 0x7A, 0xDA, 0xEA, 0xFA].contains k = true →
    (descriptor k).mnemonic = .NOP := by decide

theorem mnemonic_nopAbsX : ∀ k : Byte, [0x1C, 0x3C, 0x5C, 0x7C, 0xDC, 0xFC].contains k = true →
    (descriptor k).mnemonic = .NOP := by decide

theorem mnemonic_nopImm : ∀ k : Byte, [0x80, 0x82, 0x89, 0xC2, 0xE2].contains k = true →
    (descriptor k).mnemonic = .NOP := by decide

/-- `exec` on a well-formed instruction is `runInstr` with the handler that its table entry's mnemonic names. -/
theorem exec_eq (i : Instr) (h : i.wf = true) (s : State) : exec i s = runInstr i (handlerOf i.mnemonic) s := by
  cases i with
  | jam op => rw [Instr.mnemonic, Instr.desc, Instr.opcode, mnemonic_jam op h]; rfl
  | nopZp op _ => rw [Instr.mnemonic, Instr.desc, Instr.opcode, mnemonic_nopZp op h]; rfl
  | anc op _ => rw [Instr.mnemonic, Instr.desc, Instr.opcode, mnemonic_anc op h]; rfl
  | nopZpX op _ => rw [Instr.mnemonic, Instr.desc, Instr.opcode, mnemonic_nopZpX op h]; rfl
  | nop op => rw [Instr.mnemonic, Instr.desc, Instr.opcode, mnemonic_nop op h]; rfl
  | nopAbsX op _ => rw [Instr.mnemonic, Instr.desc, Instr.opcode, mnemonic_nopAbsX op h]; rfl
  | nopImm op _ => rw [Instr.mnemonic, Instr.desc, Instr.opcode, mnemonic_nopImm op h]; rfl
  | _ => simp only [Instr.mnemonic, Instr.desc, Instr.opcode]; rfl

/-- What `runInstr` can answer (R88, R91, R110, R170, R172). -/
theorem runInstr_cases (i : Instr) (f : Handler) (s : State) :
    (i.opcode ∈ s.params.haltOpcodes ∧ runInstr i f s = .next s.halt) ∨
    (i.opcode ∉ s.params.haltOpcodes ∧ i.desc.documented = false ∧ s.params.undocPolicy = .refuse ∧
      runInstr i f s = .refused (.undocumentedRefused i.opcode)) ∨
    (i.opcode ∉ s.params.haltOpcodes ∧ (i.desc.documented = true ∨ s.params.undocPolicy = .nmos) ∧
      ((∃ r, f ⟨s.pc, i.opcode, operandSource i s, pageCrossed i s⟩ (s.advance i) = .refuse r ∧
          runInstr i f s = .refused r) ∨
       ∃ t e, f ⟨s.pc, i.opcode, operandSource i s, pageCrossed i s⟩ (s.advance i) = .ran t e ∧
          runInstr i f s = .next (t.complete i.desc s.i (pageCrossed i s) e))) := by
  unfold runInstr
  by_cases h1 : i.opcode ∈ s.params.haltOpcodes
  · simp [h1]
  · by_cases h2 : (!i.desc.documented && s.params.undocPolicy == .refuse) = true
    · simp only [h1, h2, if_true, if_false]
      simp_all
    · have h3 : i.desc.documented = true ∨ s.params.undocPolicy = .nmos := by
        cases hd : i.desc.documented <;> cases hp : s.params.undocPolicy <;> simp_all
      refine .inr (.inr ⟨h1, h3, ?_⟩)
      simp only [h1, if_false]
      rw [if_neg h2]
      simp only [operandSource, pageCrossed]
      split
      · rename_i r hr
        exact .inl ⟨r, hr, rfl⟩
      · rename_i t e hr
        exact .inr ⟨t, e, hr, rfl⟩

/-- An executing instruction whose handler runs answers the completed state (R90, R91). -/
theorem exec_ran {i : Instr} {s t : State} {e : Nat} (h : Executes i s)
    (hr : handlerOf i.mnemonic ⟨s.pc, i.opcode, operandSource i s, pageCrossed i s⟩ (s.advance i) = .ran t e) :
    exec i s = .next (t.complete i.desc s.i (pageCrossed i s) e) := by
  rw [exec_eq i h.1]
  obtain ⟨h1, h2, h3⟩ := h
  rcases runInstr_cases i (handlerOf i.mnemonic) s with hc | hc | ⟨-, -, hc | hc⟩
  · exact absurd hc.1 h2
  · rcases h3 with h3 | h3 <;> simp_all
  · obtain ⟨r, hr', -⟩ := hc
    rw [hr] at hr'
    cases hr'
  · obtain ⟨t', e', hr', hx⟩ := hc
    rw [hr] at hr'
    cases hr'
    exact hx

/-- `exec_ran` with its completion written out: what the handler left, the polling latch, and the cost (R91, R206). -/
theorem exec_completes {i : Instr} {s t : State} {m : Mnemonic} {e : Nat} (h : Executes i s) (hm : i.mnemonic = m)
    (hr : handlerOf m ⟨s.pc, i.opcode, operandSource i s, pageCrossed i s⟩ (s.advance i) = .ran t e) :
    exec i s = .next { t with
      iPoll := if delaysIPoll m then s.i else t.i
      cycles := t.cycles + plainCost i s + e } := by
  rw [exec_ran h (by rw [hm]; exact hr)]
  simp only [State.complete, cost, plainCost, Nat.add_assoc]
  rw [show i.desc.mnemonic = m from hm]

/-- Advancing PC changes no operand's value, no stack address and no stack byte. -/
@[simp] theorem load_advance (s : State) (i : Instr) (src : Src) : (s.advance i).load src = s.load src := by
  cases src <;> rfl

@[simp] theorem pushAddress_advance (s : State) (i : Instr) : (s.advance i).pushAddress = s.pushAddress := rfl

@[simp] theorem pullAddress_advance (s : State) (i : Instr) : (s.advance i).pullAddress = s.pullAddress := rfl

@[simp] theorem pulled_advance (s : State) (i : Instr) : (s.advance i).pulled = s.pulled := rfl

/-- `step` is one of R87's three: nothing when halted, an interrupt entry, the fetched instruction. -/
theorem step_cases (s : State) :
    (s.halted = true ∧ step s = .next s) ∨
    (s.halted = false ∧ ∃ k, s.pollInputs.pendingInterrupt = some k ∧
      step s = .next (s.pollInputs.interruptEntry k)) ∨
    (RunsInstruction s ∧ step s = exec s.pollInputs.fetch s.pollInputs) := by
  unfold step runStep
  cases hh : s.halted
  · cases hp : s.pollInputs.pendingInterrupt with
    | none => exact .inr (.inr ⟨⟨hh, hp⟩, by simp [hp]⟩)
    | some k => exact .inr (.inl ⟨rfl, k, rfl, by simp [hp]⟩)
  · exact .inl ⟨rfl, rfl⟩

end Sys2Proof.Machine
end

