-- ==== Sys2Proof/Laws/Memory.lean ====
section
/-! SUPPORT. Memory: what a read gives after a write, and that every operation keeps the canonical form. -/

namespace Sys2Proof.Machine

theorem Memory.read_nil (a : Nat) : Memory.read [] a = unlistedByte := rfl

theorem Memory.read_cons (k : Nat) (b : Byte) (m : Memory) (a : Nat) :
    Memory.read ((k, b) :: m) a = if k = a then b else m.read a := rfl

/-- An address below every listed one is unlisted. -/
theorem Memory.read_of_lt {m : Memory} {a : Nat} (h : ∀ c ∈ m, a < c.1) : m.read a = unlistedByte := by
  induction m with
  | nil => rfl
  | cons c m ih =>
    obtain ⟨k, b⟩ := c
    have hk : a < k := h (k, b) (by simp)
    rw [Memory.read_cons, if_neg (by omega), ih fun c hc => h c (by simp [hc])]

/-- Putting an entry in front of a memory whose addresses are all higher. -/
theorem Memory.read_consCell {m : Memory} {a : Nat} (h : ∀ c ∈ m, a < c.1) (v : Byte) (e : Nat) :
    (Memory.consCell a v m).read e = if e = a then v else m.read e := by
  unfold Memory.consCell
  by_cases hv : v = unlistedByte
  · rw [if_pos hv]
    by_cases he : e = a
    · rw [if_pos he, he, hv, Memory.read_of_lt h]
    · rw [if_neg he]
  · rw [if_neg hv, Memory.read_cons]
    by_cases he : e = a
    · simp [he]
    · rw [if_neg he, if_neg (Ne.symm he)]

/-- In a canonical memory, an entry's address is below all later ones. -/
theorem Memory.wf_tail {c : Host.Cell} {m : Memory} (h : Memory.wf (c :: m)) :
    Memory.wf m ∧ ∀ e ∈ m, c.1 < e.1 :=
  ⟨⟨(List.pairwise_cons.1 h.1).2, fun e he => h.2 e (by simp [he])⟩, (List.pairwise_cons.1 h.1).1⟩

theorem Memory.wf_consCell {m : Memory} {a : Nat} (h : m.wf) (ha : a < 65536) (hm : ∀ c ∈ m, a < c.1) (v : Byte) :
    (Memory.consCell a v m).wf := by
  unfold Memory.consCell
  split
  · exact h
  · rename_i hv
    refine ⟨List.pairwise_cons.2 ⟨hm, h.1⟩, fun c hc => ?_⟩
    rcases List.mem_cons.1 hc with rfl | hc
    · exact ⟨ha, hv⟩
    · exact h.2 c hc

/-- Every entry of a written memory is at the written address or was there before. -/
theorem Memory.mem_write {m : Memory} {a : Nat} {v : Byte} {c : Host.Cell} (h : c ∈ m.write a v) :
    c.1 = a ∨ c ∈ m := by
  induction m with
  | nil =>
    simp only [Memory.write, Memory.consCell] at h
    split at h <;> simp_all
  | cons e m ih =>
    obtain ⟨k, b⟩ := e
    simp only [Memory.write, Memory.consCell] at h
    split at h
    · split at h
      · exact .inr h
      · rcases List.mem_cons.1 h with rfl | h
        · exact .inl rfl
        · exact .inr h
    · split at h
      · split at h
        · exact .inr (by simp [h])
        · rcases List.mem_cons.1 h with rfl | h
          · exact .inl rfl
          · exact .inr (by simp [h])
      · rcases List.mem_cons.1 h with rfl | h
        · exact .inr (by simp)
        · rcases ih h with h | h
          · exact .inl h
          · exact .inr (by simp [h])

/-- A write keeps the canonical form. -/
theorem Memory.wf_write {m : Memory} (h : m.wf) {a : Nat} (ha : a < 65536) (v : Byte) : (m.write a v).wf := by
  induction m with
  | nil => exact Memory.wf_consCell h ha (by simp) v
  | cons c m ih =>
    obtain ⟨k, b⟩ := c
    obtain ⟨ht, hlt⟩ := Memory.wf_tail h
    simp only [Memory.write]
    split
    · rename_i hk
      refine Memory.wf_consCell h ha (fun c hc => ?_) v
      rcases List.mem_cons.1 hc with rfl | hc
      · exact hk
      · exact Nat.lt_trans hk (hlt c hc)
    · split
      · rename_i hk
        exact Memory.wf_consCell ht ha (fun c hc => hk ▸ hlt c hc) v
      · rename_i h1 h2
        refine ⟨List.pairwise_cons.2 ⟨fun c hc => ?_, (ih ht).1⟩, fun c hc => ?_⟩
        · rcases Memory.mem_write hc with hc | hc
          · show k < c.1
            omega
          · exact hlt c hc
        · rcases List.mem_cons.1 hc with rfl | hc
          · exact h.2 _ (by simp)
          · exact (ih ht).2 c hc

/-- A read after a write: the written byte at its address, and every other address as before. -/
theorem Memory.read_write {m : Memory} (h : m.wf) (a : Nat) (v : Byte) (e : Nat) :
    (m.write a v).read e = if e = a then v else m.read e := by
  induction m with
  | nil => exact Memory.read_consCell (by simp) v e
  | cons c m ih =>
    obtain ⟨k, b⟩ := c
    obtain ⟨ht, hlt⟩ := Memory.wf_tail h
    simp only [Memory.write]
    split
    · rename_i hk
      refine Memory.read_consCell (fun c hc => ?_) v e
      rcases List.mem_cons.1 hc with rfl | hc
      · exact hk
      · exact Nat.lt_trans hk (hlt c hc)
    · split
      · rename_i hk
        subst hk
        rw [Memory.read_consCell hlt, Memory.read_cons]
        by_cases he : e = a
        · simp [he]
        · simp [he, Ne.symm he]
      · rename_i h1 h2
        rw [Memory.read_cons, Memory.read_cons, ih ht]
        by_cases he : e = a
        · subst he
          simp [Ne.symm h2]
        · simp [he]

theorem Memory.wf_writeWord {m : Memory} (h : m.wf) (addr w : Word) : (m.writeWord addr w).wf :=
  Memory.wf_write (Memory.wf_write h addr.isLt _) (addr + 1).isLt _

theorem Memory.wf_writeBytes {m : Memory} (h : m.wf) (addr : Word) (bs : List Byte) : (m.writeBytes addr bs).wf := by
  induction bs generalizing m addr with
  | nil => exact h
  | cons b bs ih => exact ih (Memory.wf_write h addr.isLt _) _

/-- The loader's image is canonical, whatever the program. -/
theorem Memory.wf_programImage (p : Program) : (programImage p).wf := by
  have h : (Memory.writeBytes [] p.loadAddress p.bytes).wf := Memory.wf_writeBytes (by decide) _ _
  unfold programImage
  simp only
  split
  · exact h
  · exact Memory.wf_writeWord h _ _

theorem State.wf_write {s : State} (h : s.mem.wf) (addr : Word) (v : Byte) : (s.write addr v).mem.wf :=
  Memory.wf_write h addr.isLt v

theorem State.wf_store {s : State} (h : s.mem.wf) (src : Src) (v : Byte) : (s.store src v).mem.wf := by
  cases src <;> first | exact State.wf_write h _ v | exact h

theorem State.wf_push {s : State} (h : s.mem.wf) (v : Byte) : (s.push v).mem.wf :=
  State.wf_write h _ v

theorem State.wf_enterHandler {s : State} (h : s.mem.wf) (r : Word) (bit4 : Bool) (vec : Word) :
    (s.enterHandler r bit4 vec).mem.wf :=
  State.wf_push (State.wf_push (State.wf_push h _) _) _

end Sys2Proof.Machine
end

