-- ==== Sys2Proof/Laws/PerInstr.lean ====
section
/-! SUPPORT. A law of every instruction as syntax, one lemma for each constructor: the encoding has the length that the
opcode byte alone gives (spec/30_encoding.md R53, R56), and the operand is in the table's addressing mode (R61). -/

namespace Sys2Proof.Laws.Encoding

/-- The encoding's length is the table's, and so is the operand's mode. -/
def Statement (i : Instr) : Prop :=
  i.wf = true → (encode i).length = i.length ∧ i.operand.mode = i.desc.mode

theorem brk : Statement .brk := fun _ =>
  show 1 = (descriptor 0x00).length ∧ Mode.implied = (descriptor 0x00).mode from by decide
theorem oraIndX (a : Byte) : Statement (.oraIndX a) := fun _ =>
  show 2 = (descriptor 0x01).length ∧ Mode.indirectX = (descriptor 0x01).mode from by decide

theorem jam (op : Byte) : Statement (.jam op) := by
  have h : ∀ k : Byte, [0x02, 0x12, 0x22, 0x32, 0x42, 0x52, 0x62, 0x72, 0x92, 0xB2, 0xD2, 0xF2].contains k = true →
      1 = (descriptor k).length ∧ Mode.implied = (descriptor k).mode := by decide
  exact h op

theorem sloIndX (a : Byte) : Statement (.sloIndX a) := fun _ =>
  show 2 = (descriptor 0x03).length ∧ Mode.indirectX = (descriptor 0x03).mode from by decide

theorem nopZp (op : Byte) (a : Byte) : Statement (.nopZp op a) := by
  have h : ∀ k : Byte, [0x04, 0x44, 0x64].contains k = true →
      2 = (descriptor k).length ∧ Mode.zeroPage = (descriptor k).mode := by decide
  exact h op

theorem oraZp (a : Byte) : Statement (.oraZp a) := fun _ =>
  show 2 = (descriptor 0x05).length ∧ Mode.zeroPage = (descriptor 0x05).mode from by decide
theorem aslZp (a : Byte) : Statement (.aslZp a) := fun _ =>
  show 2 = (descriptor 0x06).length ∧ Mode.zeroPage = (descriptor 0x06).mode from by decide
theorem sloZp (a : Byte) : Statement (.sloZp a) := fun _ =>
  show 2 = (descriptor 0x07).length ∧ Mode.zeroPage = (descriptor 0x07).mode from by decide
theorem php : Statement .php := fun _ =>
  show 1 = (descriptor 0x08).length ∧ Mode.implied = (descriptor 0x08).mode from by decide
theorem oraImm (i : Byte) : Statement (.oraImm i) := fun _ =>
  show 2 = (descriptor 0x09).length ∧ Mode.immediate = (descriptor 0x09).mode from by decide
theorem aslAcc : Statement .aslAcc := fun _ =>
  show 1 = (descriptor 0x0A).length ∧ Mode.accumulator = (descriptor 0x0A).mode from by decide

theorem anc (op : Byte) (i : Byte) : Statement (.anc op i) := by
  have h : ∀ k : Byte, [0x0B, 0x2B].contains k = true →
      2 = (descriptor k).length ∧ Mode.immediate = (descriptor k).mode := by decide
  exact h op

theorem nopAbs (w : Word) : Statement (.nopAbs w) := fun _ =>
  show 3 = (descriptor 0x0C).length ∧ Mode.absolute = (descriptor 0x0C).mode from by decide
theorem oraAbs (w : Word) : Statement (.oraAbs w) := fun _ =>
  show 3 = (descriptor 0x0D).length ∧ Mode.absolute = (descriptor 0x0D).mode from by decide
theorem aslAbs (w : Word) : Statement (.aslAbs w) := fun _ =>
  show 3 = (descriptor 0x0E).length ∧ Mode.absolute = (descriptor 0x0E).mode from by decide
theorem sloAbs (w : Word) : Statement (.sloAbs w) := fun _ =>
  show 3 = (descriptor 0x0F).length ∧ Mode.absolute = (descriptor 0x0F).mode from by decide
theorem bpl (o : Byte) : Statement (.bpl o) := fun _ =>
  show 2 = (descriptor 0x10).length ∧ Mode.relative = (descriptor 0x10).mode from by decide
theorem oraIndY (a : Byte) : Statement (.oraIndY a) := fun _ =>
  show 2 = (descriptor 0x11).length ∧ Mode.indirectY = (descriptor 0x11).mode from by decide
theorem sloIndY (a : Byte) : Statement (.sloIndY a) := fun _ =>
  show 2 = (descriptor 0x13).length ∧ Mode.indirectY = (descriptor 0x13).mode from by decide

theorem nopZpX (op : Byte) (a : Byte) : Statement (.nopZpX op a) := by
  have h : ∀ k : Byte, [0x14, 0x34, 0x54, 0x74, 0xD4, 0xF4].contains k = true →
      2 = (descriptor k).length ∧ Mode.zeroPageX = (descriptor k).mode := by decide
  exact h op

theorem oraZpX (a : Byte) : Statement (.oraZpX a) := fun _ =>
  show 2 = (descriptor 0x15).length ∧ Mode.zeroPageX = (descriptor 0x15).mode from by decide
theorem aslZpX (a : Byte) : Statement (.aslZpX a) := fun _ =>
  show 2 = (descriptor 0x16).length ∧ Mode.zeroPageX = (descriptor 0x16).mode from by decide
theorem sloZpX (a : Byte) : Statement (.sloZpX a) := fun _ =>
  show 2 = (descriptor 0x17).length ∧ Mode.zeroPageX = (descriptor 0x17).mode from by decide
theorem clc : Statement .clc := fun _ =>
  show 1 = (descriptor 0x18).length ∧ Mode.implied = (descriptor 0x18).mode from by decide
theorem oraAbsY (w : Word) : Statement (.oraAbsY w) := fun _ =>
  show 3 = (descriptor 0x19).length ∧ Mode.absoluteY = (descriptor 0x19).mode from by decide

theorem nop (op : Byte) : Statement (.nop op) := by
  have h : ∀ k : Byte, [0x1A, 0x3A, 0x5A, 0x7A, 0xDA, 0xEA, 0xFA].contains k = true →
      1 = (descriptor k).length ∧ Mode.implied = (descriptor k).mode := by decide
  exact h op

theorem sloAbsY (w : Word) : Statement (.sloAbsY w) := fun _ =>
  show 3 = (descriptor 0x1B).length ∧ Mode.absoluteY = (descriptor 0x1B).mode from by decide

theorem nopAbsX (op : Byte) (w : Word) : Statement (.nopAbsX op w) := by
  have h : ∀ k : Byte, [0x1C, 0x3C, 0x5C, 0x7C, 0xDC, 0xFC].contains k = true →
      3 = (descriptor k).length ∧ Mode.absoluteX = (descriptor k).mode := by decide
  exact h op

theorem oraAbsX (w : Word) : Statement (.oraAbsX w) := fun _ =>
  show 3 = (descriptor 0x1D).length ∧ Mode.absoluteX = (descriptor 0x1D).mode from by decide
theorem aslAbsX (w : Word) : Statement (.aslAbsX w) := fun _ =>
  show 3 = (descriptor 0x1E).length ∧ Mode.absoluteX = (descriptor 0x1E).mode from by decide
theorem sloAbsX (w : Word) : Statement (.sloAbsX w) := fun _ =>
  show 3 = (descriptor 0x1F).length ∧ Mode.absoluteX = (descriptor 0x1F).mode from by decide
theorem jsr (w : Word) : Statement (.jsr w) := fun _ =>
  show 3 = (descriptor 0x20).length ∧ Mode.absolute = (descriptor 0x20).mode from by decide
theorem andIndX (a : Byte) : Statement (.andIndX a) := fun _ =>
  show 2 = (descriptor 0x21).length ∧ Mode.indirectX = (descriptor 0x21).mode from by decide
theorem rlaIndX (a : Byte) : Statement (.rlaIndX a) := fun _ =>
  show 2 = (descriptor 0x23).length ∧ Mode.indirectX = (descriptor 0x23).mode from by decide
theorem bitZp (a : Byte) : Statement (.bitZp a) := fun _ =>
  show 2 = (descriptor 0x24).length ∧ Mode.zeroPage = (descriptor 0x24).mode from by decide
theorem andZp (a : Byte) : Statement (.andZp a) := fun _ =>
  show 2 = (descriptor 0x25).length ∧ Mode.zeroPage = (descriptor 0x25).mode from by decide
theorem rolZp (a : Byte) : Statement (.rolZp a) := fun _ =>
  show 2 = (descriptor 0x26).length ∧ Mode.zeroPage = (descriptor 0x26).mode from by decide
theorem rlaZp (a : Byte) : Statement (.rlaZp a) := fun _ =>
  show 2 = (descriptor 0x27).length ∧ Mode.zeroPage = (descriptor 0x27).mode from by decide
theorem plp : Statement .plp := fun _ =>
  show 1 = (descriptor 0x28).length ∧ Mode.implied = (descriptor 0x28).mode from by decide
theorem andImm (i : Byte) : Statement (.andImm i) := fun _ =>
  show 2 = (descriptor 0x29).length ∧ Mode.immediate = (descriptor 0x29).mode from by decide
theorem rolAcc : Statement .rolAcc := fun _ =>
  show 1 = (descriptor 0x2A).length ∧ Mode.accumulator = (descriptor 0x2A).mode from by decide
theorem bitAbs (w : Word) : Statement (.bitAbs w) := fun _ =>
  show 3 = (descriptor 0x2C).length ∧ Mode.absolute = (descriptor 0x2C).mode from by decide
theorem andAbs (w : Word) : Statement (.andAbs w) := fun _ =>
  show 3 = (descriptor 0x2D).length ∧ Mode.absolute = (descriptor 0x2D).mode from by decide
theorem rolAbs (w : Word) : Statement (.rolAbs w) := fun _ =>
  show 3 = (descriptor 0x2E).length ∧ Mode.absolute = (descriptor 0x2E).mode from by decide
theorem rlaAbs (w : Word) : Statement (.rlaAbs w) := fun _ =>
  show 3 = (descriptor 0x2F).length ∧ Mode.absolute = (descriptor 0x2F).mode from by decide
theorem bmi (o : Byte) : Statement (.bmi o) := fun _ =>
  show 2 = (descriptor 0x30).length ∧ Mode.relative = (descriptor 0x30).mode from by decide
theorem andIndY (a : Byte) : Statement (.andIndY a) := fun _ =>
  show 2 = (descriptor 0x31).length ∧ Mode.indirectY = (descriptor 0x31).mode from by decide
theorem rlaIndY (a : Byte) : Statement (.rlaIndY a) := fun _ =>
  show 2 = (descriptor 0x33).length ∧ Mode.indirectY = (descriptor 0x33).mode from by decide
theorem andZpX (a : Byte) : Statement (.andZpX a) := fun _ =>
  show 2 = (descriptor 0x35).length ∧ Mode.zeroPageX = (descriptor 0x35).mode from by decide
theorem rolZpX (a : Byte) : Statement (.rolZpX a) := fun _ =>
  show 2 = (descriptor 0x36).length ∧ Mode.zeroPageX = (descriptor 0x36).mode from by decide
theorem rlaZpX (a : Byte) : Statement (.rlaZpX a) := fun _ =>
  show 2 = (descriptor 0x37).length ∧ Mode.zeroPageX = (descriptor 0x37).mode from by decide
theorem sec : Statement .sec := fun _ =>
  show 1 = (descriptor 0x38).length ∧ Mode.implied = (descriptor 0x38).mode from by decide
theorem andAbsY (w : Word) : Statement (.andAbsY w) := fun _ =>
  show 3 = (descriptor 0x39).length ∧ Mode.absoluteY = (descriptor 0x39).mode from by decide
theorem rlaAbsY (w : Word) : Statement (.rlaAbsY w) := fun _ =>
  show 3 = (descriptor 0x3B).length ∧ Mode.absoluteY = (descriptor 0x3B).mode from by decide
theorem andAbsX (w : Word) : Statement (.andAbsX w) := fun _ =>
  show 3 = (descriptor 0x3D).length ∧ Mode.absoluteX = (descriptor 0x3D).mode from by decide
theorem rolAbsX (w : Word) : Statement (.rolAbsX w) := fun _ =>
  show 3 = (descriptor 0x3E).length ∧ Mode.absoluteX = (descriptor 0x3E).mode from by decide
theorem rlaAbsX (w : Word) : Statement (.rlaAbsX w) := fun _ =>
  show 3 = (descriptor 0x3F).length ∧ Mode.absoluteX = (descriptor 0x3F).mode from by decide
theorem rti : Statement .rti := fun _ =>
  show 1 = (descriptor 0x40).length ∧ Mode.implied = (descriptor 0x40).mode from by decide
theorem eorIndX (a : Byte) : Statement (.eorIndX a) := fun _ =>
  show 2 = (descriptor 0x41).length ∧ Mode.indirectX = (descriptor 0x41).mode from by decide
theorem sreIndX (a : Byte) : Statement (.sreIndX a) := fun _ =>
  show 2 = (descriptor 0x43).length ∧ Mode.indirectX = (descriptor 0x43).mode from by decide
theorem eorZp (a : Byte) : Statement (.eorZp a) := fun _ =>
  show 2 = (descriptor 0x45).length ∧ Mode.zeroPage = (descriptor 0x45).mode from by decide
theorem lsrZp (a : Byte) : Statement (.lsrZp a) := fun _ =>
  show 2 = (descriptor 0x46).length ∧ Mode.zeroPage = (descriptor 0x46).mode from by decide
theorem sreZp (a : Byte) : Statement (.sreZp a) := fun _ =>
  show 2 = (descriptor 0x47).length ∧ Mode.zeroPage = (descriptor 0x47).mode from by decide
theorem pha : Statement .pha := fun _ =>
  show 1 = (descriptor 0x48).length ∧ Mode.implied = (descriptor 0x48).mode from by decide
theorem eorImm (i : Byte) : Statement (.eorImm i) := fun _ =>
  show 2 = (descriptor 0x49).length ∧ Mode.immediate = (descriptor 0x49).mode from by decide
theorem lsrAcc : Statement .lsrAcc := fun _ =>
  show 1 = (descriptor 0x4A).length ∧ Mode.accumulator = (descriptor 0x4A).mode from by decide
theorem alr (i : Byte) : Statement (.alr i) := fun _ =>
  show 2 = (descriptor 0x4B).length ∧ Mode.immediate = (descriptor 0x4B).mode from by decide
theorem jmpAbs (w : Word) : Statement (.jmpAbs w) := fun _ =>
  show 3 = (descriptor 0x4C).length ∧ Mode.absolute = (descriptor 0x4C).mode from by decide
theorem eorAbs (w : Word) : Statement (.eorAbs w) := fun _ =>
  show 3 = (descriptor 0x4D).length ∧ Mode.absolute = (descriptor 0x4D).mode from by decide
theorem lsrAbs (w : Word) : Statement (.lsrAbs w) := fun _ =>
  show 3 = (descriptor 0x4E).length ∧ Mode.absolute = (descriptor 0x4E).mode from by decide
theorem sreAbs (w : Word) : Statement (.sreAbs w) := fun _ =>
  show 3 = (descriptor 0x4F).length ∧ Mode.absolute = (descriptor 0x4F).mode from by decide
theorem bvc (o : Byte) : Statement (.bvc o) := fun _ =>
  show 2 = (descriptor 0x50).length ∧ Mode.relative = (descriptor 0x50).mode from by decide
theorem eorIndY (a : Byte) : Statement (.eorIndY a) := fun _ =>
  show 2 = (descriptor 0x51).length ∧ Mode.indirectY = (descriptor 0x51).mode from by decide
theorem sreIndY (a : Byte) : Statement (.sreIndY a) := fun _ =>
  show 2 = (descriptor 0x53).length ∧ Mode.indirectY = (descriptor 0x53).mode from by decide
theorem eorZpX (a : Byte) : Statement (.eorZpX a) := fun _ =>
  show 2 = (descriptor 0x55).length ∧ Mode.zeroPageX = (descriptor 0x55).mode from by decide
theorem lsrZpX (a : Byte) : Statement (.lsrZpX a) := fun _ =>
  show 2 = (descriptor 0x56).length ∧ Mode.zeroPageX = (descriptor 0x56).mode from by decide
theorem sreZpX (a : Byte) : Statement (.sreZpX a) := fun _ =>
  show 2 = (descriptor 0x57).length ∧ Mode.zeroPageX = (descriptor 0x57).mode from by decide
theorem cli : Statement .cli := fun _ =>
  show 1 = (descriptor 0x58).length ∧ Mode.implied = (descriptor 0x58).mode from by decide
theorem eorAbsY (w : Word) : Statement (.eorAbsY w) := fun _ =>
  show 3 = (descriptor 0x59).length ∧ Mode.absoluteY = (descriptor 0x59).mode from by decide
theorem sreAbsY (w : Word) : Statement (.sreAbsY w) := fun _ =>
  show 3 = (descriptor 0x5B).length ∧ Mode.absoluteY = (descriptor 0x5B).mode from by decide
theorem eorAbsX (w : Word) : Statement (.eorAbsX w) := fun _ =>
  show 3 = (descriptor 0x5D).length ∧ Mode.absoluteX = (descriptor 0x5D).mode from by decide
theorem lsrAbsX (w : Word) : Statement (.lsrAbsX w) := fun _ =>
  show 3 = (descriptor 0x5E).length ∧ Mode.absoluteX = (descriptor 0x5E).mode from by decide
theorem sreAbsX (w : Word) : Statement (.sreAbsX w) := fun _ =>
  show 3 = (descriptor 0x5F).length ∧ Mode.absoluteX = (descriptor 0x5F).mode from by decide
theorem rts : Statement .rts := fun _ =>
  show 1 = (descriptor 0x60).length ∧ Mode.implied = (descriptor 0x60).mode from by decide
theorem adcIndX (a : Byte) : Statement (.adcIndX a) := fun _ =>
  show 2 = (descriptor 0x61).length ∧ Mode.indirectX = (descriptor 0x61).mode from by decide
theorem rraIndX (a : Byte) : Statement (.rraIndX a) := fun _ =>
  show 2 = (descriptor 0x63).length ∧ Mode.indirectX = (descriptor 0x63).mode from by decide
theorem adcZp (a : Byte) : Statement (.adcZp a) := fun _ =>
  show 2 = (descriptor 0x65).length ∧ Mode.zeroPage = (descriptor 0x65).mode from by decide
theorem rorZp (a : Byte) : Statement (.rorZp a) := fun _ =>
  show 2 = (descriptor 0x66).length ∧ Mode.zeroPage = (descriptor 0x66).mode from by decide
theorem rraZp (a : Byte) : Statement (.rraZp a) := fun _ =>
  show 2 = (descriptor 0x67).length ∧ Mode.zeroPage = (descriptor 0x67).mode from by decide
theorem pla : Statement .pla := fun _ =>
  show 1 = (descriptor 0x68).length ∧ Mode.implied = (descriptor 0x68).mode from by decide
theorem adcImm (i : Byte) : Statement (.adcImm i) := fun _ =>
  show 2 = (descriptor 0x69).length ∧ Mode.immediate = (descriptor 0x69).mode from by decide
theorem rorAcc : Statement .rorAcc := fun _ =>
  show 1 = (descriptor 0x6A).length ∧ Mode.accumulator = (descriptor 0x6A).mode from by decide
theorem arr (i : Byte) : Statement (.arr i) := fun _ =>
  show 2 = (descriptor 0x6B).length ∧ Mode.immediate = (descriptor 0x6B).mode from by decide
theorem jmpInd (w : Word) : Statement (.jmpInd w) := fun _ =>
  show 3 = (descriptor 0x6C).length ∧ Mode.indirect = (descriptor 0x6C).mode from by decide
theorem adcAbs (w : Word) : Statement (.adcAbs w) := fun _ =>
  show 3 = (descriptor 0x6D).length ∧ Mode.absolute = (descriptor 0x6D).mode from by decide
theorem rorAbs (w : Word) : Statement (.rorAbs w) := fun _ =>
  show 3 = (descriptor 0x6E).length ∧ Mode.absolute = (descriptor 0x6E).mode from by decide
theorem rraAbs (w : Word) : Statement (.rraAbs w) := fun _ =>
  show 3 = (descriptor 0x6F).length ∧ Mode.absolute = (descriptor 0x6F).mode from by decide
theorem bvs (o : Byte) : Statement (.bvs o) := fun _ =>
  show 2 = (descriptor 0x70).length ∧ Mode.relative = (descriptor 0x70).mode from by decide
theorem adcIndY (a : Byte) : Statement (.adcIndY a) := fun _ =>
  show 2 = (descriptor 0x71).length ∧ Mode.indirectY = (descriptor 0x71).mode from by decide
theorem rraIndY (a : Byte) : Statement (.rraIndY a) := fun _ =>
  show 2 = (descriptor 0x73).length ∧ Mode.indirectY = (descriptor 0x73).mode from by decide
theorem adcZpX (a : Byte) : Statement (.adcZpX a) := fun _ =>
  show 2 = (descriptor 0x75).length ∧ Mode.zeroPageX = (descriptor 0x75).mode from by decide
theorem rorZpX (a : Byte) : Statement (.rorZpX a) := fun _ =>
  show 2 = (descriptor 0x76).length ∧ Mode.zeroPageX = (descriptor 0x76).mode from by decide
theorem rraZpX (a : Byte) : Statement (.rraZpX a) := fun _ =>
  show 2 = (descriptor 0x77).length ∧ Mode.zeroPageX = (descriptor 0x77).mode from by decide
theorem sei : Statement .sei := fun _ =>
  show 1 = (descriptor 0x78).length ∧ Mode.implied = (descriptor 0x78).mode from by decide
theorem adcAbsY (w : Word) : Statement (.adcAbsY w) := fun _ =>
  show 3 = (descriptor 0x79).length ∧ Mode.absoluteY = (descriptor 0x79).mode from by decide
theorem rraAbsY (w : Word) : Statement (.rraAbsY w) := fun _ =>
  show 3 = (descriptor 0x7B).length ∧ Mode.absoluteY = (descriptor 0x7B).mode from by decide
theorem adcAbsX (w : Word) : Statement (.adcAbsX w) := fun _ =>
  show 3 = (descriptor 0x7D).length ∧ Mode.absoluteX = (descriptor 0x7D).mode from by decide
theorem rorAbsX (w : Word) : Statement (.rorAbsX w) := fun _ =>
  show 3 = (descriptor 0x7E).length ∧ Mode.absoluteX = (descriptor 0x7E).mode from by decide
theorem rraAbsX (w : Word) : Statement (.rraAbsX w) := fun _ =>
  show 3 = (descriptor 0x7F).length ∧ Mode.absoluteX = (descriptor 0x7F).mode from by decide

theorem nopImm (op : Byte) (i : Byte) : Statement (.nopImm op i) := by
  have h : ∀ k : Byte, [0x80, 0x82, 0x89, 0xC2, 0xE2].contains k = true →
      2 = (descriptor k).length ∧ Mode.immediate = (descriptor k).mode := by decide
  exact h op

theorem staIndX (a : Byte) : Statement (.staIndX a) := fun _ =>
  show 2 = (descriptor 0x81).length ∧ Mode.indirectX = (descriptor 0x81).mode from by decide
theorem saxIndX (a : Byte) : Statement (.saxIndX a) := fun _ =>
  show 2 = (descriptor 0x83).length ∧ Mode.indirectX = (descriptor 0x83).mode from by decide
theorem styZp (a : Byte) : Statement (.styZp a) := fun _ =>
  show 2 = (descriptor 0x84).length ∧ Mode.zeroPage = (descriptor 0x84).mode from by decide
theorem staZp (a : Byte) : Statement (.staZp a) := fun _ =>
  show 2 = (descriptor 0x85).length ∧ Mode.zeroPage = (descriptor 0x85).mode from by decide
theorem stxZp (a : Byte) : Statement (.stxZp a) := fun _ =>
  show 2 = (descriptor 0x86).length ∧ Mode.zeroPage = (descriptor 0x86).mode from by decide
theorem saxZp (a : Byte) : Statement (.saxZp a) := fun _ =>
  show 2 = (descriptor 0x87).length ∧ Mode.zeroPage = (descriptor 0x87).mode from by decide
theorem dey : Statement .dey := fun _ =>
  show 1 = (descriptor 0x88).length ∧ Mode.implied = (descriptor 0x88).mode from by decide
theorem txa : Statement .txa := fun _ =>
  show 1 = (descriptor 0x8A).length ∧ Mode.implied = (descriptor 0x8A).mode from by decide
theorem ane (i : Byte) : Statement (.ane i) := fun _ =>
  show 2 = (descriptor 0x8B).length ∧ Mode.immediate = (descriptor 0x8B).mode from by decide
theorem styAbs (w : Word) : Statement (.styAbs w) := fun _ =>
  show 3 = (descriptor 0x8C).length ∧ Mode.absolute = (descriptor 0x8C).mode from by decide
theorem staAbs (w : Word) : Statement (.staAbs w) := fun _ =>
  show 3 = (descriptor 0x8D).length ∧ Mode.absolute = (descriptor 0x8D).mode from by decide
theorem stxAbs (w : Word) : Statement (.stxAbs w) := fun _ =>
  show 3 = (descriptor 0x8E).length ∧ Mode.absolute = (descriptor 0x8E).mode from by decide
theorem saxAbs (w : Word) : Statement (.saxAbs w) := fun _ =>
  show 3 = (descriptor 0x8F).length ∧ Mode.absolute = (descriptor 0x8F).mode from by decide
theorem bcc (o : Byte) : Statement (.bcc o) := fun _ =>
  show 2 = (descriptor 0x90).length ∧ Mode.relative = (descriptor 0x90).mode from by decide
theorem staIndY (a : Byte) : Statement (.staIndY a) := fun _ =>
  show 2 = (descriptor 0x91).length ∧ Mode.indirectY = (descriptor 0x91).mode from by decide
theorem shaIndY (a : Byte) : Statement (.shaIndY a) := fun _ =>
  show 2 = (descriptor 0x93).length ∧ Mode.indirectY = (descriptor 0x93).mode from by decide
theorem styZpX (a : Byte) : Statement (.styZpX a) := fun _ =>
  show 2 = (descriptor 0x94).length ∧ Mode.zeroPageX = (descriptor 0x94).mode from by decide
theorem staZpX (a : Byte) : Statement (.staZpX a) := fun _ =>
  show 2 = (descriptor 0x95).length ∧ Mode.zeroPageX = (descriptor 0x95).mode from by decide
theorem stxZpY (a : Byte) : Statement (.stxZpY a) := fun _ =>
  show 2 = (descriptor 0x96).length ∧ Mode.zeroPageY = (descriptor 0x96).mode from by decide
theorem saxZpY (a : Byte) : Statement (.saxZpY a) := fun _ =>
  show 2 = (descriptor 0x97).length ∧ Mode.zeroPageY = (descriptor 0x97).mode from by decide
theorem tya : Statement .tya := fun _ =>
  show 1 = (descriptor 0x98).length ∧ Mode.implied = (descriptor 0x98).mode from by decide
theorem staAbsY (w : Word) : Statement (.staAbsY w) := fun _ =>
  show 3 = (descriptor 0x99).length ∧ Mode.absoluteY = (descriptor 0x99).mode from by decide
theorem txs : Statement .txs := fun _ =>
  show 1 = (descriptor 0x9A).length ∧ Mode.implied = (descriptor 0x9A).mode from by decide
theorem tas (w : Word) : Statement (.tas w) := fun _ =>
  show 3 = (descriptor 0x9B).length ∧ Mode.absoluteY = (descriptor 0x9B).mode from by decide
theorem shy (w : Word) : Statement (.shy w) := fun _ =>
  show 3 = (descriptor 0x9C).length ∧ Mode.absoluteX = (descriptor 0x9C).mode from by decide
theorem staAbsX (w : Word) : Statement (.staAbsX w) := fun _ =>
  show 3 = (descriptor 0x9D).length ∧ Mode.absoluteX = (descriptor 0x9D).mode from by decide
theorem shx (w : Word) : Statement (.shx w) := fun _ =>
  show 3 = (descriptor 0x9E).length ∧ Mode.absoluteY = (descriptor 0x9E).mode from by decide
theorem shaAbsY (w : Word) : Statement (.shaAbsY w) := fun _ =>
  show 3 = (descriptor 0x9F).length ∧ Mode.absoluteY = (descriptor 0x9F).mode from by decide
theorem ldyImm (i : Byte) : Statement (.ldyImm i) := fun _ =>
  show 2 = (descriptor 0xA0).length ∧ Mode.immediate = (descriptor 0xA0).mode from by decide
theorem ldaIndX (a : Byte) : Statement (.ldaIndX a) := fun _ =>
  show 2 = (descriptor 0xA1).length ∧ Mode.indirectX = (descriptor 0xA1).mode from by decide
theorem ldxImm (i : Byte) : Statement (.ldxImm i) := fun _ =>
  show 2 = (descriptor 0xA2).length ∧ Mode.immediate = (descriptor 0xA2).mode from by decide
theorem laxIndX (a : Byte) : Statement (.laxIndX a) := fun _ =>
  show 2 = (descriptor 0xA3).length ∧ Mode.indirectX = (descriptor 0xA3).mode from by decide
theorem ldyZp (a : Byte) : Statement (.ldyZp a) := fun _ =>
  show 2 = (descriptor 0xA4).length ∧ Mode.zeroPage = (descriptor 0xA4).mode from by decide
theorem ldaZp (a : Byte) : Statement (.ldaZp a) := fun _ =>
  show 2 = (descriptor 0xA5).length ∧ Mode.zeroPage = (descriptor 0xA5).mode from by decide
theorem ldxZp (a : Byte) : Statement (.ldxZp a) := fun _ =>
  show 2 = (descriptor 0xA6).length ∧ Mode.zeroPage = (descriptor 0xA6).mode from by decide
theorem laxZp (a : Byte) : Statement (.laxZp a) := fun _ =>
  show 2 = (descriptor 0xA7).length ∧ Mode.zeroPage = (descriptor 0xA7).mode from by decide
theorem tay : Statement .tay := fun _ =>
  show 1 = (descriptor 0xA8).length ∧ Mode.implied = (descriptor 0xA8).mode from by decide
theorem ldaImm (i : Byte) : Statement (.ldaImm i) := fun _ =>
  show 2 = (descriptor 0xA9).length ∧ Mode.immediate = (descriptor 0xA9).mode from by decide
theorem tax : Statement .tax := fun _ =>
  show 1 = (descriptor 0xAA).length ∧ Mode.implied = (descriptor 0xAA).mode from by decide
theorem lxa (i : Byte) : Statement (.lxa i) := fun _ =>
  show 2 = (descriptor 0xAB).length ∧ Mode.immediate = (descriptor 0xAB).mode from by decide
theorem ldyAbs (w : Word) : Statement (.ldyAbs w) := fun _ =>
  show 3 = (descriptor 0xAC).length ∧ Mode.absolute = (descriptor 0xAC).mode from by decide
theorem ldaAbs (w : Word) : Statement (.ldaAbs w) := fun _ =>
  show 3 = (descriptor 0xAD).length ∧ Mode.absolute = (descriptor 0xAD).mode from by decide
theorem ldxAbs (w : Word) : Statement (.ldxAbs w) := fun _ =>
  show 3 = (descriptor 0xAE).length ∧ Mode.absolute = (descriptor 0xAE).mode from by decide
theorem laxAbs (w : Word) : Statement (.laxAbs w) := fun _ =>
  show 3 = (descriptor 0xAF).length ∧ Mode.absolute = (descriptor 0xAF).mode from by decide
theorem bcs (o : Byte) : Statement (.bcs o) := fun _ =>
  show 2 = (descriptor 0xB0).length ∧ Mode.relative = (descriptor 0xB0).mode from by decide
theorem ldaIndY (a : Byte) : Statement (.ldaIndY a) := fun _ =>
  show 2 = (descriptor 0xB1).length ∧ Mode.indirectY = (descriptor 0xB1).mode from by decide
theorem laxIndY (a : Byte) : Statement (.laxIndY a) := fun _ =>
  show 2 = (descriptor 0xB3).length ∧ Mode.indirectY = (descriptor 0xB3).mode from by decide
theorem ldyZpX (a : Byte) : Statement (.ldyZpX a) := fun _ =>
  show 2 = (descriptor 0xB4).length ∧ Mode.zeroPageX = (descriptor 0xB4).mode from by decide
theorem ldaZpX (a : Byte) : Statement (.ldaZpX a) := fun _ =>
  show 2 = (descriptor 0xB5).length ∧ Mode.zeroPageX = (descriptor 0xB5).mode from by decide
theorem ldxZpY (a : Byte) : Statement (.ldxZpY a) := fun _ =>
  show 2 = (descriptor 0xB6).length ∧ Mode.zeroPageY = (descriptor 0xB6).mode from by decide
theorem laxZpY (a : Byte) : Statement (.laxZpY a) := fun _ =>
  show 2 = (descriptor 0xB7).length ∧ Mode.zeroPageY = (descriptor 0xB7).mode from by decide
theorem clv : Statement .clv := fun _ =>
  show 1 = (descriptor 0xB8).length ∧ Mode.implied = (descriptor 0xB8).mode from by decide
theorem ldaAbsY (w : Word) : Statement (.ldaAbsY w) := fun _ =>
  show 3 = (descriptor 0xB9).length ∧ Mode.absoluteY = (descriptor 0xB9).mode from by decide
theorem tsx : Statement .tsx := fun _ =>
  show 1 = (descriptor 0xBA).length ∧ Mode.implied = (descriptor 0xBA).mode from by decide
theorem las (w : Word) : Statement (.las w) := fun _ =>
  show 3 = (descriptor 0xBB).length ∧ Mode.absoluteY = (descriptor 0xBB).mode from by decide
theorem ldyAbsX (w : Word) : Statement (.ldyAbsX w) := fun _ =>
  show 3 = (descriptor 0xBC).length ∧ Mode.absoluteX = (descriptor 0xBC).mode from by decide
theorem ldaAbsX (w : Word) : Statement (.ldaAbsX w) := fun _ =>
  show 3 = (descriptor 0xBD).length ∧ Mode.absoluteX = (descriptor 0xBD).mode from by decide
theorem ldxAbsY (w : Word) : Statement (.ldxAbsY w) := fun _ =>
  show 3 = (descriptor 0xBE).length ∧ Mode.absoluteY = (descriptor 0xBE).mode from by decide
theorem laxAbsY (w : Word) : Statement (.laxAbsY w) := fun _ =>
  show 3 = (descriptor 0xBF).length ∧ Mode.absoluteY = (descriptor 0xBF).mode from by decide
theorem cpyImm (i : Byte) : Statement (.cpyImm i) := fun _ =>
  show 2 = (descriptor 0xC0).length ∧ Mode.immediate = (descriptor 0xC0).mode from by decide
theorem cmpIndX (a : Byte) : Statement (.cmpIndX a) := fun _ =>
  show 2 = (descriptor 0xC1).length ∧ Mode.indirectX = (descriptor 0xC1).mode from by decide
theorem dcpIndX (a : Byte) : Statement (.dcpIndX a) := fun _ =>
  show 2 = (descriptor 0xC3).length ∧ Mode.indirectX = (descriptor 0xC3).mode from by decide
theorem cpyZp (a : Byte) : Statement (.cpyZp a) := fun _ =>
  show 2 = (descriptor 0xC4).length ∧ Mode.zeroPage = (descriptor 0xC4).mode from by decide
theorem cmpZp (a : Byte) : Statement (.cmpZp a) := fun _ =>
  show 2 = (descriptor 0xC5).length ∧ Mode.zeroPage = (descriptor 0xC5).mode from by decide
theorem decZp (a : Byte) : Statement (.decZp a) := fun _ =>
  show 2 = (descriptor 0xC6).length ∧ Mode.zeroPage = (descriptor 0xC6).mode from by decide
theorem dcpZp (a : Byte) : Statement (.dcpZp a) := fun _ =>
  show 2 = (descriptor 0xC7).length ∧ Mode.zeroPage = (descriptor 0xC7).mode from by decide
theorem iny : Statement .iny := fun _ =>
  show 1 = (descriptor 0xC8).length ∧ Mode.implied = (descriptor 0xC8).mode from by decide
theorem cmpImm (i : Byte) : Statement (.cmpImm i) := fun _ =>
  show 2 = (descriptor 0xC9).length ∧ Mode.immediate = (descriptor 0xC9).mode from by decide
theorem dex : Statement .dex := fun _ =>
  show 1 = (descriptor 0xCA).length ∧ Mode.implied = (descriptor 0xCA).mode from by decide
theorem sbx (i : Byte) : Statement (.sbx i) := fun _ =>
  show 2 = (descriptor 0xCB).length ∧ Mode.immediate = (descriptor 0xCB).mode from by decide
theorem cpyAbs (w : Word) : Statement (.cpyAbs w) := fun _ =>
  show 3 = (descriptor 0xCC).length ∧ Mode.absolute = (descriptor 0xCC).mode from by decide
theorem cmpAbs (w : Word) : Statement (.cmpAbs w) := fun _ =>
  show 3 = (descriptor 0xCD).length ∧ Mode.absolute = (descriptor 0xCD).mode from by decide
theorem decAbs (w : Word) : Statement (.decAbs w) := fun _ =>
  show 3 = (descriptor 0xCE).length ∧ Mode.absolute = (descriptor 0xCE).mode from by decide
theorem dcpAbs (w : Word) : Statement (.dcpAbs w) := fun _ =>
  show 3 = (descriptor 0xCF).length ∧ Mode.absolute = (descriptor 0xCF).mode from by decide
theorem bne (o : Byte) : Statement (.bne o) := fun _ =>
  show 2 = (descriptor 0xD0).length ∧ Mode.relative = (descriptor 0xD0).mode from by decide
theorem cmpIndY (a : Byte) : Statement (.cmpIndY a) := fun _ =>
  show 2 = (descriptor 0xD1).length ∧ Mode.indirectY = (descriptor 0xD1).mode from by decide
theorem dcpIndY (a : Byte) : Statement (.dcpIndY a) := fun _ =>
  show 2 = (descriptor 0xD3).length ∧ Mode.indirectY = (descriptor 0xD3).mode from by decide
theorem cmpZpX (a : Byte) : Statement (.cmpZpX a) := fun _ =>
  show 2 = (descriptor 0xD5).length ∧ Mode.zeroPageX = (descriptor 0xD5).mode from by decide
theorem decZpX (a : Byte) : Statement (.decZpX a) := fun _ =>
  show 2 = (descriptor 0xD6).length ∧ Mode.zeroPageX = (descriptor 0xD6).mode from by decide
theorem dcpZpX (a : Byte) : Statement (.dcpZpX a) := fun _ =>
  show 2 = (descriptor 0xD7).length ∧ Mode.zeroPageX = (descriptor 0xD7).mode from by decide
theorem cld : Statement .cld := fun _ =>
  show 1 = (descriptor 0xD8).length ∧ Mode.implied = (descriptor 0xD8).mode from by decide
theorem cmpAbsY (w : Word) : Statement (.cmpAbsY w) := fun _ =>
  show 3 = (descriptor 0xD9).length ∧ Mode.absoluteY = (descriptor 0xD9).mode from by decide
theorem dcpAbsY (w : Word) : Statement (.dcpAbsY w) := fun _ =>
  show 3 = (descriptor 0xDB).length ∧ Mode.absoluteY = (descriptor 0xDB).mode from by decide
theorem cmpAbsX (w : Word) : Statement (.cmpAbsX w) := fun _ =>
  show 3 = (descriptor 0xDD).length ∧ Mode.absoluteX = (descriptor 0xDD).mode from by decide
theorem decAbsX (w : Word) : Statement (.decAbsX w) := fun _ =>
  show 3 = (descriptor 0xDE).length ∧ Mode.absoluteX = (descriptor 0xDE).mode from by decide
theorem dcpAbsX (w : Word) : Statement (.dcpAbsX w) := fun _ =>
  show 3 = (descriptor 0xDF).length ∧ Mode.absoluteX = (descriptor 0xDF).mode from by decide
theorem cpxImm (i : Byte) : Statement (.cpxImm i) := fun _ =>
  show 2 = (descriptor 0xE0).length ∧ Mode.immediate = (descriptor 0xE0).mode from by decide
theorem sbcIndX (a : Byte) : Statement (.sbcIndX a) := fun _ =>
  show 2 = (descriptor 0xE1).length ∧ Mode.indirectX = (descriptor 0xE1).mode from by decide
theorem iscIndX (a : Byte) : Statement (.iscIndX a) := fun _ =>
  show 2 = (descriptor 0xE3).length ∧ Mode.indirectX = (descriptor 0xE3).mode from by decide
theorem cpxZp (a : Byte) : Statement (.cpxZp a) := fun _ =>
  show 2 = (descriptor 0xE4).length ∧ Mode.zeroPage = (descriptor 0xE4).mode from by decide
theorem sbcZp (a : Byte) : Statement (.sbcZp a) := fun _ =>
  show 2 = (descriptor 0xE5).length ∧ Mode.zeroPage = (descriptor 0xE5).mode from by decide
theorem incZp (a : Byte) : Statement (.incZp a) := fun _ =>
  show 2 = (descriptor 0xE6).length ∧ Mode.zeroPage = (descriptor 0xE6).mode from by decide
theorem iscZp (a : Byte) : Statement (.iscZp a) := fun _ =>
  show 2 = (descriptor 0xE7).length ∧ Mode.zeroPage = (descriptor 0xE7).mode from by decide
theorem inx : Statement .inx := fun _ =>
  show 1 = (descriptor 0xE8).length ∧ Mode.implied = (descriptor 0xE8).mode from by decide
theorem sbcImm (i : Byte) : Statement (.sbcImm i) := fun _ =>
  show 2 = (descriptor 0xE9).length ∧ Mode.immediate = (descriptor 0xE9).mode from by decide
theorem usbc (i : Byte) : Statement (.usbc i) := fun _ =>
  show 2 = (descriptor 0xEB).length ∧ Mode.immediate = (descriptor 0xEB).mode from by decide
theorem cpxAbs (w : Word) : Statement (.cpxAbs w) := fun _ =>
  show 3 = (descriptor 0xEC).length ∧ Mode.absolute = (descriptor 0xEC).mode from by decide
theorem sbcAbs (w : Word) : Statement (.sbcAbs w) := fun _ =>
  show 3 = (descriptor 0xED).length ∧ Mode.absolute = (descriptor 0xED).mode from by decide
theorem incAbs (w : Word) : Statement (.incAbs w) := fun _ =>
  show 3 = (descriptor 0xEE).length ∧ Mode.absolute = (descriptor 0xEE).mode from by decide
theorem iscAbs (w : Word) : Statement (.iscAbs w) := fun _ =>
  show 3 = (descriptor 0xEF).length ∧ Mode.absolute = (descriptor 0xEF).mode from by decide
theorem beq (o : Byte) : Statement (.beq o) := fun _ =>
  show 2 = (descriptor 0xF0).length ∧ Mode.relative = (descriptor 0xF0).mode from by decide
theorem sbcIndY (a : Byte) : Statement (.sbcIndY a) := fun _ =>
  show 2 = (descriptor 0xF1).length ∧ Mode.indirectY = (descriptor 0xF1).mode from by decide
theorem iscIndY (a : Byte) : Statement (.iscIndY a) := fun _ =>
  show 2 = (descriptor 0xF3).length ∧ Mode.indirectY = (descriptor 0xF3).mode from by decide
theorem sbcZpX (a : Byte) : Statement (.sbcZpX a) := fun _ =>
  show 2 = (descriptor 0xF5).length ∧ Mode.zeroPageX = (descriptor 0xF5).mode from by decide
theorem incZpX (a : Byte) : Statement (.incZpX a) := fun _ =>
  show 2 = (descriptor 0xF6).length ∧ Mode.zeroPageX = (descriptor 0xF6).mode from by decide
theorem iscZpX (a : Byte) : Statement (.iscZpX a) := fun _ =>
  show 2 = (descriptor 0xF7).length ∧ Mode.zeroPageX = (descriptor 0xF7).mode from by decide
theorem sed : Statement .sed := fun _ =>
  show 1 = (descriptor 0xF8).length ∧ Mode.implied = (descriptor 0xF8).mode from by decide
theorem sbcAbsY (w : Word) : Statement (.sbcAbsY w) := fun _ =>
  show 3 = (descriptor 0xF9).length ∧ Mode.absoluteY = (descriptor 0xF9).mode from by decide
theorem iscAbsY (w : Word) : Statement (.iscAbsY w) := fun _ =>
  show 3 = (descriptor 0xFB).length ∧ Mode.absoluteY = (descriptor 0xFB).mode from by decide
theorem sbcAbsX (w : Word) : Statement (.sbcAbsX w) := fun _ =>
  show 3 = (descriptor 0xFD).length ∧ Mode.absoluteX = (descriptor 0xFD).mode from by decide
theorem incAbsX (w : Word) : Statement (.incAbsX w) := fun _ =>
  show 3 = (descriptor 0xFE).length ∧ Mode.absoluteX = (descriptor 0xFE).mode from by decide
theorem iscAbsX (w : Word) : Statement (.iscAbsX w) := fun _ =>
  show 3 = (descriptor 0xFF).length ∧ Mode.absoluteX = (descriptor 0xFF).mode from by decide

end Sys2Proof.Laws.Encoding
end

