-- ==== Sys2Proof/Laws/State.lean ====
section
/-! SUPPORT. What each named update of the state does to each field: one lemma for each field and update, so that no
later proof unfolds a record update. -/

namespace Sys2Proof.Machine

section setNZ
variable (s : State) (q : Byte)
@[simp] theorem State.setNZ_a : (s.setNZ q).a = s.a := rfl
@[simp] theorem State.setNZ_x : (s.setNZ q).x = s.x := rfl
@[simp] theorem State.setNZ_y : (s.setNZ q).y = s.y := rfl
@[simp] theorem State.setNZ_sp : (s.setNZ q).sp = s.sp := rfl
@[simp] theorem State.setNZ_pc : (s.setNZ q).pc = s.pc := rfl
@[simp] theorem State.setNZ_n : (s.setNZ q).n = q.getLsbD 7 := rfl
@[simp] theorem State.setNZ_v : (s.setNZ q).v = s.v := rfl
@[simp] theorem State.setNZ_b : (s.setNZ q).b = s.b := rfl
@[simp] theorem State.setNZ_d : (s.setNZ q).d = s.d := rfl
@[simp] theorem State.setNZ_i : (s.setNZ q).i = s.i := rfl
@[simp] theorem State.setNZ_z : (s.setNZ q).z = (q == 0) := rfl
@[simp] theorem State.setNZ_c : (s.setNZ q).c = s.c := rfl
@[simp] theorem State.setNZ_mem : (s.setNZ q).mem = s.mem := rfl
@[simp] theorem State.setNZ_cycles : (s.setNZ q).cycles = s.cycles := rfl
@[simp] theorem State.setNZ_halted : (s.setNZ q).halted = s.halted := rfl
@[simp] theorem State.setNZ_nmiPending : (s.setNZ q).nmiPending = s.nmiPending := rfl
@[simp] theorem State.setNZ_nmiPrev : (s.setNZ q).nmiPrev = s.nmiPrev := rfl
@[simp] theorem State.setNZ_iPoll : (s.setNZ q).iPoll = s.iPoll := rfl
@[simp] theorem State.setNZ_irqIn : (s.setNZ q).irqIn = s.irqIn := rfl
@[simp] theorem State.setNZ_nmiIn : (s.setNZ q).nmiIn = s.nmiIn := rfl
@[simp] theorem State.setNZ_params : (s.setNZ q).params = s.params := rfl
@[simp] theorem State.setNZ_draws : (s.setNZ q).draws = s.draws := rfl
end setNZ

section setAlu
variable (s : State) (q : AluResult)
@[simp] theorem State.setAlu_a : (s.setAlu q).a = q.value := rfl
@[simp] theorem State.setAlu_x : (s.setAlu q).x = s.x := rfl
@[simp] theorem State.setAlu_y : (s.setAlu q).y = s.y := rfl
@[simp] theorem State.setAlu_sp : (s.setAlu q).sp = s.sp := rfl
@[simp] theorem State.setAlu_pc : (s.setAlu q).pc = s.pc := rfl
@[simp] theorem State.setAlu_n : (s.setAlu q).n = q.n := rfl
@[simp] theorem State.setAlu_v : (s.setAlu q).v = q.v := rfl
@[simp] theorem State.setAlu_b : (s.setAlu q).b = s.b := rfl
@[simp] theorem State.setAlu_d : (s.setAlu q).d = s.d := rfl
@[simp] theorem State.setAlu_i : (s.setAlu q).i = s.i := rfl
@[simp] theorem State.setAlu_z : (s.setAlu q).z = q.z := rfl
@[simp] theorem State.setAlu_c : (s.setAlu q).c = q.c := rfl
@[simp] theorem State.setAlu_mem : (s.setAlu q).mem = s.mem := rfl
@[simp] theorem State.setAlu_cycles : (s.setAlu q).cycles = s.cycles := rfl
@[simp] theorem State.setAlu_halted : (s.setAlu q).halted = s.halted := rfl
@[simp] theorem State.setAlu_nmiPending : (s.setAlu q).nmiPending = s.nmiPending := rfl
@[simp] theorem State.setAlu_nmiPrev : (s.setAlu q).nmiPrev = s.nmiPrev := rfl
@[simp] theorem State.setAlu_iPoll : (s.setAlu q).iPoll = s.iPoll := rfl
@[simp] theorem State.setAlu_irqIn : (s.setAlu q).irqIn = s.irqIn := rfl
@[simp] theorem State.setAlu_nmiIn : (s.setAlu q).nmiIn = s.nmiIn := rfl
@[simp] theorem State.setAlu_params : (s.setAlu q).params = s.params := rfl
@[simp] theorem State.setAlu_draws : (s.setAlu q).draws = s.draws := rfl
end setAlu

section loadStatus
variable (s : State) (q : Byte)
@[simp] theorem State.loadStatus_a : (s.loadStatus q).a = s.a := rfl
@[simp] theorem State.loadStatus_x : (s.loadStatus q).x = s.x := rfl
@[simp] theorem State.loadStatus_y : (s.loadStatus q).y = s.y := rfl
@[simp] theorem State.loadStatus_sp : (s.loadStatus q).sp = s.sp := rfl
@[simp] theorem State.loadStatus_pc : (s.loadStatus q).pc = s.pc := rfl
@[simp] theorem State.loadStatus_n : (s.loadStatus q).n = q.getLsbD 7 := rfl
@[simp] theorem State.loadStatus_v : (s.loadStatus q).v = q.getLsbD 6 := rfl
@[simp] theorem State.loadStatus_b : (s.loadStatus q).b = s.b := rfl
@[simp] theorem State.loadStatus_d : (s.loadStatus q).d = q.getLsbD 3 := rfl
@[simp] theorem State.loadStatus_i : (s.loadStatus q).i = q.getLsbD 2 := rfl
@[simp] theorem State.loadStatus_z : (s.loadStatus q).z = q.getLsbD 1 := rfl
@[simp] theorem State.loadStatus_c : (s.loadStatus q).c = q.getLsbD 0 := rfl
@[simp] theorem State.loadStatus_mem : (s.loadStatus q).mem = s.mem := rfl
@[simp] theorem State.loadStatus_cycles : (s.loadStatus q).cycles = s.cycles := rfl
@[simp] theorem State.loadStatus_halted : (s.loadStatus q).halted = s.halted := rfl
@[simp] theorem State.loadStatus_nmiPending : (s.loadStatus q).nmiPending = s.nmiPending := rfl
@[simp] theorem State.loadStatus_nmiPrev : (s.loadStatus q).nmiPrev = s.nmiPrev := rfl
@[simp] theorem State.loadStatus_iPoll : (s.loadStatus q).iPoll = s.iPoll := rfl
@[simp] theorem State.loadStatus_irqIn : (s.loadStatus q).irqIn = s.irqIn := rfl
@[simp] theorem State.loadStatus_nmiIn : (s.loadStatus q).nmiIn = s.nmiIn := rfl
@[simp] theorem State.loadStatus_params : (s.loadStatus q).params = s.params := rfl
@[simp] theorem State.loadStatus_draws : (s.loadStatus q).draws = s.draws := rfl
end loadStatus

section write
variable (s : State) (k : Word) (q : Byte)
@[simp] theorem State.write_a : (s.write k q).a = s.a := rfl
@[simp] theorem State.write_x : (s.write k q).x = s.x := rfl
@[simp] theorem State.write_y : (s.write k q).y = s.y := rfl
@[simp] theorem State.write_sp : (s.write k q).sp = s.sp := rfl
@[simp] theorem State.write_pc : (s.write k q).pc = s.pc := rfl
@[simp] theorem State.write_n : (s.write k q).n = s.n := rfl
@[simp] theorem State.write_v : (s.write k q).v = s.v := rfl
@[simp] theorem State.write_b : (s.write k q).b = s.b := rfl
@[simp] theorem State.write_d : (s.write k q).d = s.d := rfl
@[simp] theorem State.write_i : (s.write k q).i = s.i := rfl
@[simp] theorem State.write_z : (s.write k q).z = s.z := rfl
@[simp] theorem State.write_c : (s.write k q).c = s.c := rfl
@[simp] theorem State.write_mem : (s.write k q).mem = s.mem.write k.toNat q := rfl
@[simp] theorem State.write_cycles : (s.write k q).cycles = s.cycles := rfl
@[simp] theorem State.write_halted : (s.write k q).halted = s.halted := rfl
@[simp] theorem State.write_nmiPending : (s.write k q).nmiPending = s.nmiPending := rfl
@[simp] theorem State.write_nmiPrev : (s.write k q).nmiPrev = s.nmiPrev := rfl
@[simp] theorem State.write_iPoll : (s.write k q).iPoll = s.iPoll := rfl
@[simp] theorem State.write_irqIn : (s.write k q).irqIn = s.irqIn := rfl
@[simp] theorem State.write_nmiIn : (s.write k q).nmiIn = s.nmiIn := rfl
@[simp] theorem State.write_params : (s.write k q).params = s.params := rfl
@[simp] theorem State.write_draws : (s.write k q).draws = s.draws := rfl
end write

section push
variable (s : State) (q : Byte)
@[simp] theorem State.push_a : (s.push q).a = s.a := rfl
@[simp] theorem State.push_x : (s.push q).x = s.x := rfl
@[simp] theorem State.push_y : (s.push q).y = s.y := rfl
@[simp] theorem State.push_sp : (s.push q).sp = s.sp - 1 := rfl
@[simp] theorem State.push_pc : (s.push q).pc = s.pc := rfl
@[simp] theorem State.push_n : (s.push q).n = s.n := rfl
@[simp] theorem State.push_v : (s.push q).v = s.v := rfl
@[simp] theorem State.push_b : (s.push q).b = s.b := rfl
@[simp] theorem State.push_d : (s.push q).d = s.d := rfl
@[simp] theorem State.push_i : (s.push q).i = s.i := rfl
@[simp] theorem State.push_z : (s.push q).z = s.z := rfl
@[simp] theorem State.push_c : (s.push q).c = s.c := rfl
@[simp] theorem State.push_mem : (s.push q).mem = s.mem.write s.pushAddress.toNat q := rfl
@[simp] theorem State.push_cycles : (s.push q).cycles = s.cycles := rfl
@[simp] theorem State.push_halted : (s.push q).halted = s.halted := rfl
@[simp] theorem State.push_nmiPending : (s.push q).nmiPending = s.nmiPending := rfl
@[simp] theorem State.push_nmiPrev : (s.push q).nmiPrev = s.nmiPrev := rfl
@[simp] theorem State.push_iPoll : (s.push q).iPoll = s.iPoll := rfl
@[simp] theorem State.push_irqIn : (s.push q).irqIn = s.irqIn := rfl
@[simp] theorem State.push_nmiIn : (s.push q).nmiIn = s.nmiIn := rfl
@[simp] theorem State.push_params : (s.push q).params = s.params := rfl
@[simp] theorem State.push_draws : (s.push q).draws = s.draws := rfl
end push

section afterPull
variable (s : State)
@[simp] theorem State.afterPull_a : (s.afterPull).a = s.a := rfl
@[simp] theorem State.afterPull_x : (s.afterPull).x = s.x := rfl
@[simp] theorem State.afterPull_y : (s.afterPull).y = s.y := rfl
@[simp] theorem State.afterPull_sp : (s.afterPull).sp = s.sp + 1 := rfl
@[simp] theorem State.afterPull_pc : (s.afterPull).pc = s.pc := rfl
@[simp] theorem State.afterPull_n : (s.afterPull).n = s.n := rfl
@[simp] theorem State.afterPull_v : (s.afterPull).v = s.v := rfl
@[simp] theorem State.afterPull_b : (s.afterPull).b = s.b := rfl
@[simp] theorem State.afterPull_d : (s.afterPull).d = s.d := rfl
@[simp] theorem State.afterPull_i : (s.afterPull).i = s.i := rfl
@[simp] theorem State.afterPull_z : (s.afterPull).z = s.z := rfl
@[simp] theorem State.afterPull_c : (s.afterPull).c = s.c := rfl
@[simp] theorem State.afterPull_mem : (s.afterPull).mem = s.mem := rfl
@[simp] theorem State.afterPull_cycles : (s.afterPull).cycles = s.cycles := rfl
@[simp] theorem State.afterPull_halted : (s.afterPull).halted = s.halted := rfl
@[simp] theorem State.afterPull_nmiPending : (s.afterPull).nmiPending = s.nmiPending := rfl
@[simp] theorem State.afterPull_nmiPrev : (s.afterPull).nmiPrev = s.nmiPrev := rfl
@[simp] theorem State.afterPull_iPoll : (s.afterPull).iPoll = s.iPoll := rfl
@[simp] theorem State.afterPull_irqIn : (s.afterPull).irqIn = s.irqIn := rfl
@[simp] theorem State.afterPull_nmiIn : (s.afterPull).nmiIn = s.nmiIn := rfl
@[simp] theorem State.afterPull_params : (s.afterPull).params = s.params := rfl
@[simp] theorem State.afterPull_draws : (s.afterPull).draws = s.draws := rfl
end afterPull

section advance
variable (s : State) (k : Instr)
@[simp] theorem State.advance_a : (s.advance k).a = s.a := rfl
@[simp] theorem State.advance_x : (s.advance k).x = s.x := rfl
@[simp] theorem State.advance_y : (s.advance k).y = s.y := rfl
@[simp] theorem State.advance_sp : (s.advance k).sp = s.sp := rfl
@[simp] theorem State.advance_pc : (s.advance k).pc = s.pc + BitVec.ofNat 16 k.length := rfl
@[simp] theorem State.advance_n : (s.advance k).n = s.n := rfl
@[simp] theorem State.advance_v : (s.advance k).v = s.v := rfl
@[simp] theorem State.advance_b : (s.advance k).b = s.b := rfl
@[simp] theorem State.advance_d : (s.advance k).d = s.d := rfl
@[simp] theorem State.advance_i : (s.advance k).i = s.i := rfl
@[simp] theorem State.advance_z : (s.advance k).z = s.z := rfl
@[simp] theorem State.advance_c : (s.advance k).c = s.c := rfl
@[simp] theorem State.advance_mem : (s.advance k).mem = s.mem := rfl
@[simp] theorem State.advance_cycles : (s.advance k).cycles = s.cycles := rfl
@[simp] theorem State.advance_halted : (s.advance k).halted = s.halted := rfl
@[simp] theorem State.advance_nmiPending : (s.advance k).nmiPending = s.nmiPending := rfl
@[simp] theorem State.advance_nmiPrev : (s.advance k).nmiPrev = s.nmiPrev := rfl
@[simp] theorem State.advance_iPoll : (s.advance k).iPoll = s.iPoll := rfl
@[simp] theorem State.advance_irqIn : (s.advance k).irqIn = s.irqIn := rfl
@[simp] theorem State.advance_nmiIn : (s.advance k).nmiIn = s.nmiIn := rfl
@[simp] theorem State.advance_params : (s.advance k).params = s.params := rfl
@[simp] theorem State.advance_draws : (s.advance k).draws = s.draws := rfl
end advance

section complete
variable (s : State) (k : Descriptor) (j : Bool) (p : Bool) (e : Nat)
@[simp] theorem State.complete_a : (s.complete k j p e).a = s.a := rfl
@[simp] theorem State.complete_x : (s.complete k j p e).x = s.x := rfl
@[simp] theorem State.complete_y : (s.complete k j p e).y = s.y := rfl
@[simp] theorem State.complete_sp : (s.complete k j p e).sp = s.sp := rfl
@[simp] theorem State.complete_pc : (s.complete k j p e).pc = s.pc := rfl
@[simp] theorem State.complete_n : (s.complete k j p e).n = s.n := rfl
@[simp] theorem State.complete_v : (s.complete k j p e).v = s.v := rfl
@[simp] theorem State.complete_b : (s.complete k j p e).b = s.b := rfl
@[simp] theorem State.complete_d : (s.complete k j p e).d = s.d := rfl
@[simp] theorem State.complete_i : (s.complete k j p e).i = s.i := rfl
@[simp] theorem State.complete_z : (s.complete k j p e).z = s.z := rfl
@[simp] theorem State.complete_c : (s.complete k j p e).c = s.c := rfl
@[simp] theorem State.complete_mem : (s.complete k j p e).mem = s.mem := rfl
@[simp] theorem State.complete_cycles : (s.complete k j p e).cycles = s.cycles + cost k p e := rfl
@[simp] theorem State.complete_halted : (s.complete k j p e).halted = s.halted := rfl
@[simp] theorem State.complete_nmiPending : (s.complete k j p e).nmiPending = s.nmiPending := rfl
@[simp] theorem State.complete_nmiPrev : (s.complete k j p e).nmiPrev = s.nmiPrev := rfl
@[simp] theorem State.complete_iPoll : (s.complete k j p e).iPoll = (if delaysIPoll k.mnemonic then j else s.i) := rfl
@[simp] theorem State.complete_irqIn : (s.complete k j p e).irqIn = s.irqIn := rfl
@[simp] theorem State.complete_nmiIn : (s.complete k j p e).nmiIn = s.nmiIn := rfl
@[simp] theorem State.complete_params : (s.complete k j p e).params = s.params := rfl
@[simp] theorem State.complete_draws : (s.complete k j p e).draws = s.draws := rfl
end complete

section store
variable (s : State) (k : Src) (q : Byte)
@[simp] theorem State.store_x : (s.store k q).x = s.x := by cases k <;> rfl
@[simp] theorem State.store_y : (s.store k q).y = s.y := by cases k <;> rfl
@[simp] theorem State.store_sp : (s.store k q).sp = s.sp := by cases k <;> rfl
@[simp] theorem State.store_pc : (s.store k q).pc = s.pc := by cases k <;> rfl
@[simp] theorem State.store_n : (s.store k q).n = s.n := by cases k <;> rfl
@[simp] theorem State.store_v : (s.store k q).v = s.v := by cases k <;> rfl
@[simp] theorem State.store_b : (s.store k q).b = s.b := by cases k <;> rfl
@[simp] theorem State.store_d : (s.store k q).d = s.d := by cases k <;> rfl
@[simp] theorem State.store_i : (s.store k q).i = s.i := by cases k <;> rfl
@[simp] theorem State.store_z : (s.store k q).z = s.z := by cases k <;> rfl
@[simp] theorem State.store_c : (s.store k q).c = s.c := by cases k <;> rfl
@[simp] theorem State.store_cycles : (s.store k q).cycles = s.cycles := by cases k <;> rfl
@[simp] theorem State.store_halted : (s.store k q).halted = s.halted := by cases k <;> rfl
@[simp] theorem State.store_nmiPending : (s.store k q).nmiPending = s.nmiPending := by cases k <;> rfl
@[simp] theorem State.store_nmiPrev : (s.store k q).nmiPrev = s.nmiPrev := by cases k <;> rfl
@[simp] theorem State.store_iPoll : (s.store k q).iPoll = s.iPoll := by cases k <;> rfl
@[simp] theorem State.store_irqIn : (s.store k q).irqIn = s.irqIn := by cases k <;> rfl
@[simp] theorem State.store_nmiIn : (s.store k q).nmiIn = s.nmiIn := by cases k <;> rfl
@[simp] theorem State.store_params : (s.store k q).params = s.params := by cases k <;> rfl
@[simp] theorem State.store_draws : (s.store k q).draws = s.draws := by cases k <;> rfl
end store

section pollInputs
variable (s : State)
@[simp] theorem State.pollInputs_a : (s.pollInputs).a = s.a := rfl
@[simp] theorem State.pollInputs_x : (s.pollInputs).x = s.x := rfl
@[simp] theorem State.pollInputs_y : (s.pollInputs).y = s.y := rfl
@[simp] theorem State.pollInputs_sp : (s.pollInputs).sp = s.sp := rfl
@[simp] theorem State.pollInputs_pc : (s.pollInputs).pc = s.pc := rfl
@[simp] theorem State.pollInputs_n : (s.pollInputs).n = s.n := rfl
@[simp] theorem State.pollInputs_v : (s.pollInputs).v = s.v := rfl
@[simp] theorem State.pollInputs_b : (s.pollInputs).b = s.b := rfl
@[simp] theorem State.pollInputs_d : (s.pollInputs).d = s.d := rfl
@[simp] theorem State.pollInputs_i : (s.pollInputs).i = s.i := rfl
@[simp] theorem State.pollInputs_z : (s.pollInputs).z = s.z := rfl
@[simp] theorem State.pollInputs_c : (s.pollInputs).c = s.c := rfl
@[simp] theorem State.pollInputs_mem : (s.pollInputs).mem = s.mem := rfl
@[simp] theorem State.pollInputs_cycles : (s.pollInputs).cycles = s.cycles := rfl
@[simp] theorem State.pollInputs_halted : (s.pollInputs).halted = s.halted := rfl
@[simp] theorem State.pollInputs_nmiPending : (s.pollInputs).nmiPending = (s.nmiPending || (s.sampled s.nmiIn && !s.nmiPrev)) := rfl
@[simp] theorem State.pollInputs_nmiPrev : (s.pollInputs).nmiPrev = s.sampled s.nmiIn := rfl
@[simp] theorem State.pollInputs_iPoll : (s.pollInputs).iPoll = s.iPoll := rfl
@[simp] theorem State.pollInputs_irqIn : (s.pollInputs).irqIn = s.irqIn := rfl
@[simp] theorem State.pollInputs_nmiIn : (s.pollInputs).nmiIn = s.nmiIn := rfl
@[simp] theorem State.pollInputs_params : (s.pollInputs).params = s.params := rfl
@[simp] theorem State.pollInputs_draws : (s.pollInputs).draws = s.draws := rfl
end pollInputs

end Sys2Proof.Machine
end

