-- ==== Sys2Proof/Tests/Slice0.lean ====
section
/-! SUPPORT. Small tests: the decoding of every row from words written out of spec/30_encoding.md R54 and R63, the
well-formedness checks, one step of each mnemonic on the vectors of spec/95_test_vectors.md and the examples of the
rules, and a witness for the hypotheses of each statement. -/

namespace Sys2Proof.Tests

open Sys2Proof.Machine

/-! ## Well-formedness -/

theorem test_wf_jam : Instr.wf (.jam 0xF2) = true ∧ Instr.wf (.jam 0xA9) = false := by decide
theorem test_wf_nopZp : Instr.wf (.nopZp 0x64 0x00) = true ∧ Instr.wf (.nopZp 0xA9 0x00) = false := by decide
theorem test_wf_anc : Instr.wf (.anc 0x2B 0x00) = true ∧ Instr.wf (.anc 0xA9 0x00) = false := by decide
theorem test_wf_nopZpX : Instr.wf (.nopZpX 0xF4 0x00) = true ∧ Instr.wf (.nopZpX 0xA9 0x00) = false := by decide
theorem test_wf_nop : Instr.wf (.nop 0xFA) = true ∧ Instr.wf (.nop 0xA9) = false := by decide
theorem test_wf_nopAbsX : Instr.wf (.nopAbsX 0xFC 0x00) = true ∧ Instr.wf (.nopAbsX 0xA9 0x00) = false := by decide
theorem test_wf_nopImm : Instr.wf (.nopImm 0xE2 0x00) = true ∧ Instr.wf (.nopImm 0xA9 0x00) = false := by decide
theorem test_wf_params : Params.default.wf ∧ ¬ { Params.default with haltOpcodes := [0x12, 0x02] }.wf ∧
    ¬ { Params.default with haltOpcodes := [0x02, 0x02] }.wf := by decide
theorem test_wf_program : (Program.mk [0xA9, 0x01, 0x02] 0x8000 0x8000).wf := by decide
theorem test_wf_program_long : ¬ (Program.mk (List.replicate 65537 0) 0x8000 0x8000).wf := by
  simp only [Program.wf, List.length_replicate]; decide

/-! ## Decoding: R54 and R63, row by row of the opcode map, operands 0x34 and 0x1234 -/

/-- Each word decodes to its instruction, and the instruction encodes to the word. -/
def rowDecodes (row : List (List Byte × Instr)) : Bool :=
  row.all fun e => decode e.1 == .instr e.2 [] && encode e.2 == e.1

theorem test_decode_row_0 : rowDecodes [
    ([0x00], .brk), ([0x01, 0x34], .oraIndX 0x34), ([0x02], .jam 0x02), ([0x03, 0x34], .sloIndX 0x34),
    ([0x04, 0x34], .nopZp 0x04 0x34), ([0x05, 0x34], .oraZp 0x34), ([0x06, 0x34], .aslZp 0x34), ([0x07, 0x34], .sloZp 0x34),
    ([0x08], .php), ([0x09, 0x34], .oraImm 0x34), ([0x0A], .aslAcc), ([0x0B, 0x34], .anc 0x0B 0x34),
    ([0x0C, 0x34, 0x12], .nopAbs 0x1234), ([0x0D, 0x34, 0x12], .oraAbs 0x1234), ([0x0E, 0x34, 0x12], .aslAbs 0x1234), ([0x0F, 0x34, 0x12], .sloAbs 0x1234)] = true := by decide
theorem test_decode_row_1 : rowDecodes [
    ([0x10, 0x34], .bpl 0x34), ([0x11, 0x34], .oraIndY 0x34), ([0x12], .jam 0x12), ([0x13, 0x34], .sloIndY 0x34),
    ([0x14, 0x34], .nopZpX 0x14 0x34), ([0x15, 0x34], .oraZpX 0x34), ([0x16, 0x34], .aslZpX 0x34), ([0x17, 0x34], .sloZpX 0x34),
    ([0x18], .clc), ([0x19, 0x34, 0x12], .oraAbsY 0x1234), ([0x1A], .nop 0x1A), ([0x1B, 0x34, 0x12], .sloAbsY 0x1234),
    ([0x1C, 0x34, 0x12], .nopAbsX 0x1C 0x1234), ([0x1D, 0x34, 0x12], .oraAbsX 0x1234), ([0x1E, 0x34, 0x12], .aslAbsX 0x1234), ([0x1F, 0x34, 0x12], .sloAbsX 0x1234)] = true := by decide
theorem test_decode_row_2 : rowDecodes [
    ([0x20, 0x34, 0x12], .jsr 0x1234), ([0x21, 0x34], .andIndX 0x34), ([0x22], .jam 0x22), ([0x23, 0x34], .rlaIndX 0x34),
    ([0x24, 0x34], .bitZp 0x34), ([0x25, 0x34], .andZp 0x34), ([0x26, 0x34], .rolZp 0x34), ([0x27, 0x34], .rlaZp 0x34),
    ([0x28], .plp), ([0x29, 0x34], .andImm 0x34), ([0x2A], .rolAcc), ([0x2B, 0x34], .anc 0x2B 0x34),
    ([0x2C, 0x34, 0x12], .bitAbs 0x1234), ([0x2D, 0x34, 0x12], .andAbs 0x1234), ([0x2E, 0x34, 0x12], .rolAbs 0x1234), ([0x2F, 0x34, 0x12], .rlaAbs 0x1234)] = true := by decide
theorem test_decode_row_3 : rowDecodes [
    ([0x30, 0x34], .bmi 0x34), ([0x31, 0x34], .andIndY 0x34), ([0x32], .jam 0x32), ([0x33, 0x34], .rlaIndY 0x34),
    ([0x34, 0x34], .nopZpX 0x34 0x34), ([0x35, 0x34], .andZpX 0x34), ([0x36, 0x34], .rolZpX 0x34), ([0x37, 0x34], .rlaZpX 0x34),
    ([0x38], .sec), ([0x39, 0x34, 0x12], .andAbsY 0x1234), ([0x3A], .nop 0x3A), ([0x3B, 0x34, 0x12], .rlaAbsY 0x1234),
    ([0x3C, 0x34, 0x12], .nopAbsX 0x3C 0x1234), ([0x3D, 0x34, 0x12], .andAbsX 0x1234), ([0x3E, 0x34, 0x12], .rolAbsX 0x1234), ([0x3F, 0x34, 0x12], .rlaAbsX 0x1234)] = true := by decide
theorem test_decode_row_4 : rowDecodes [
    ([0x40], .rti), ([0x41, 0x34], .eorIndX 0x34), ([0x42], .jam 0x42), ([0x43, 0x34], .sreIndX 0x34),
    ([0x44, 0x34], .nopZp 0x44 0x34), ([0x45, 0x34], .eorZp 0x34), ([0x46, 0x34], .lsrZp 0x34), ([0x47, 0x34], .sreZp 0x34),
    ([0x48], .pha), ([0x49, 0x34], .eorImm 0x34), ([0x4A], .lsrAcc), ([0x4B, 0x34], .alr 0x34),
    ([0x4C, 0x34, 0x12], .jmpAbs 0x1234), ([0x4D, 0x34, 0x12], .eorAbs 0x1234), ([0x4E, 0x34, 0x12], .lsrAbs 0x1234), ([0x4F, 0x34, 0x12], .sreAbs 0x1234)] = true := by decide
theorem test_decode_row_5 : rowDecodes [
    ([0x50, 0x34], .bvc 0x34), ([0x51, 0x34], .eorIndY 0x34), ([0x52], .jam 0x52), ([0x53, 0x34], .sreIndY 0x34),
    ([0x54, 0x34], .nopZpX 0x54 0x34), ([0x55, 0x34], .eorZpX 0x34), ([0x56, 0x34], .lsrZpX 0x34), ([0x57, 0x34], .sreZpX 0x34),
    ([0x58], .cli), ([0x59, 0x34, 0x12], .eorAbsY 0x1234), ([0x5A], .nop 0x5A), ([0x5B, 0x34, 0x12], .sreAbsY 0x1234),
    ([0x5C, 0x34, 0x12], .nopAbsX 0x5C 0x1234), ([0x5D, 0x34, 0x12], .eorAbsX 0x1234), ([0x5E, 0x34, 0x12], .lsrAbsX 0x1234), ([0x5F, 0x34, 0x12], .sreAbsX 0x1234)] = true := by decide
theorem test_decode_row_6 : rowDecodes [
    ([0x60], .rts), ([0x61, 0x34], .adcIndX 0x34), ([0x62], .jam 0x62), ([0x63, 0x34], .rraIndX 0x34),
    ([0x64, 0x34], .nopZp 0x64 0x34), ([0x65, 0x34], .adcZp 0x34), ([0x66, 0x34], .rorZp 0x34), ([0x67, 0x34], .rraZp 0x34),
    ([0x68], .pla), ([0x69, 0x34], .adcImm 0x34), ([0x6A], .rorAcc), ([0x6B, 0x34], .arr 0x34),
    ([0x6C, 0x34, 0x12], .jmpInd 0x1234), ([0x6D, 0x34, 0x12], .adcAbs 0x1234), ([0x6E, 0x34, 0x12], .rorAbs 0x1234), ([0x6F, 0x34, 0x12], .rraAbs 0x1234)] = true := by decide
theorem test_decode_row_7 : rowDecodes [
    ([0x70, 0x34], .bvs 0x34), ([0x71, 0x34], .adcIndY 0x34), ([0x72], .jam 0x72), ([0x73, 0x34], .rraIndY 0x34),
    ([0x74, 0x34], .nopZpX 0x74 0x34), ([0x75, 0x34], .adcZpX 0x34), ([0x76, 0x34], .rorZpX 0x34), ([0x77, 0x34], .rraZpX 0x34),
    ([0x78], .sei), ([0x79, 0x34, 0x12], .adcAbsY 0x1234), ([0x7A], .nop 0x7A), ([0x7B, 0x34, 0x12], .rraAbsY 0x1234),
    ([0x7C, 0x34, 0x12], .nopAbsX 0x7C 0x1234), ([0x7D, 0x34, 0x12], .adcAbsX 0x1234), ([0x7E, 0x34, 0x12], .rorAbsX 0x1234), ([0x7F, 0x34, 0x12], .rraAbsX 0x1234)] = true := by decide
theorem test_decode_row_8 : rowDecodes [
    ([0x80, 0x34], .nopImm 0x80 0x34), ([0x81, 0x34], .staIndX 0x34), ([0x82, 0x34], .nopImm 0x82 0x34), ([0x83, 0x34], .saxIndX 0x34),
    ([0x84, 0x34], .styZp 0x34), ([0x85, 0x34], .staZp 0x34), ([0x86, 0x34], .stxZp 0x34), ([0x87, 0x34], .saxZp 0x34),
    ([0x88], .dey), ([0x89, 0x34], .nopImm 0x89 0x34), ([0x8A], .txa), ([0x8B, 0x34], .ane 0x34),
    ([0x8C, 0x34, 0x12], .styAbs 0x1234), ([0x8D, 0x34, 0x12], .staAbs 0x1234), ([0x8E, 0x34, 0x12], .stxAbs 0x1234), ([0x8F, 0x34, 0x12], .saxAbs 0x1234)] = true := by decide
theorem test_decode_row_9 : rowDecodes [
    ([0x90, 0x34], .bcc 0x34), ([0x91, 0x34], .staIndY 0x34), ([0x92], .jam 0x92), ([0x93, 0x34], .shaIndY 0x34),
    ([0x94, 0x34], .styZpX 0x34), ([0x95, 0x34], .staZpX 0x34), ([0x96, 0x34], .stxZpY 0x34), ([0x97, 0x34], .saxZpY 0x34),
    ([0x98], .tya), ([0x99, 0x34, 0x12], .staAbsY 0x1234), ([0x9A], .txs), ([0x9B, 0x34, 0x12], .tas 0x1234),
    ([0x9C, 0x34, 0x12], .shy 0x1234), ([0x9D, 0x34, 0x12], .staAbsX 0x1234), ([0x9E, 0x34, 0x12], .shx 0x1234), ([0x9F, 0x34, 0x12], .shaAbsY 0x1234)] = true := by decide
theorem test_decode_row_A : rowDecodes [
    ([0xA0, 0x34], .ldyImm 0x34), ([0xA1, 0x34], .ldaIndX 0x34), ([0xA2, 0x34], .ldxImm 0x34), ([0xA3, 0x34], .laxIndX 0x34),
    ([0xA4, 0x34], .ldyZp 0x34), ([0xA5, 0x34], .ldaZp 0x34), ([0xA6, 0x34], .ldxZp 0x34), ([0xA7, 0x34], .laxZp 0x34),
    ([0xA8], .tay), ([0xA9, 0x34], .ldaImm 0x34), ([0xAA], .tax), ([0xAB, 0x34], .lxa 0x34),
    ([0xAC, 0x34, 0x12], .ldyAbs 0x1234), ([0xAD, 0x34, 0x12], .ldaAbs 0x1234), ([0xAE, 0x34, 0x12], .ldxAbs 0x1234), ([0xAF, 0x34, 0x12], .laxAbs 0x1234)] = true := by decide
theorem test_decode_row_B : rowDecodes [
    ([0xB0, 0x34], .bcs 0x34), ([0xB1, 0x34], .ldaIndY 0x34), ([0xB2], .jam 0xB2), ([0xB3, 0x34], .laxIndY 0x34),
    ([0xB4, 0x34], .ldyZpX 0x34), ([0xB5, 0x34], .ldaZpX 0x34), ([0xB6, 0x34], .ldxZpY 0x34), ([0xB7, 0x34], .laxZpY 0x34),
    ([0xB8], .clv), ([0xB9, 0x34, 0x12], .ldaAbsY 0x1234), ([0xBA], .tsx), ([0xBB, 0x34, 0x12], .las 0x1234),
    ([0xBC, 0x34, 0x12], .ldyAbsX 0x1234), ([0xBD, 0x34, 0x12], .ldaAbsX 0x1234), ([0xBE, 0x34, 0x12], .ldxAbsY 0x1234), ([0xBF, 0x34, 0x12], .laxAbsY 0x1234)] = true := by decide
theorem test_decode_row_C : rowDecodes [
    ([0xC0, 0x34], .cpyImm 0x34), ([0xC1, 0x34], .cmpIndX 0x34), ([0xC2, 0x34], .nopImm 0xC2 0x34), ([0xC3, 0x34], .dcpIndX 0x34),
    ([0xC4, 0x34], .cpyZp 0x34), ([0xC5, 0x34], .cmpZp 0x34), ([0xC6, 0x34], .decZp 0x34), ([0xC7, 0x34], .dcpZp 0x34),
    ([0xC8], .iny), ([0xC9, 0x34], .cmpImm 0x34), ([0xCA], .dex), ([0xCB, 0x34], .sbx 0x34),
    ([0xCC, 0x34, 0x12], .cpyAbs 0x1234), ([0xCD, 0x34, 0x12], .cmpAbs 0x1234), ([0xCE, 0x34, 0x12], .decAbs 0x1234), ([0xCF, 0x34, 0x12], .dcpAbs 0x1234)] = true := by decide
theorem test_decode_row_D : rowDecodes [
    ([0xD0, 0x34], .bne 0x34), ([0xD1, 0x34], .cmpIndY 0x34), ([0xD2], .jam 0xD2), ([0xD3, 0x34], .dcpIndY 0x34),
    ([0xD4, 0x34], .nopZpX 0xD4 0x34), ([0xD5, 0x34], .cmpZpX 0x34), ([0xD6, 0x34], .decZpX 0x34), ([0xD7, 0x34], .dcpZpX 0x34),
    ([0xD8], .cld), ([0xD9, 0x34, 0x12], .cmpAbsY 0x1234), ([0xDA], .nop 0xDA), ([0xDB, 0x34, 0x12], .dcpAbsY 0x1234),
    ([0xDC, 0x34, 0x12], .nopAbsX 0xDC 0x1234), ([0xDD, 0x34, 0x12], .cmpAbsX 0x1234), ([0xDE, 0x34, 0x12], .decAbsX 0x1234), ([0xDF, 0x34, 0x12], .dcpAbsX 0x1234)] = true := by decide
theorem test_decode_row_E : rowDecodes [
    ([0xE0, 0x34], .cpxImm 0x34), ([0xE1, 0x34], .sbcIndX 0x34), ([0xE2, 0x34], .nopImm 0xE2 0x34), ([0xE3, 0x34], .iscIndX 0x34),
    ([0xE4, 0x34], .cpxZp 0x34), ([0xE5, 0x34], .sbcZp 0x34), ([0xE6, 0x34], .incZp 0x34), ([0xE7, 0x34], .iscZp 0x34),
    ([0xE8], .inx), ([0xE9, 0x34], .sbcImm 0x34), ([0xEA], .nop 0xEA), ([0xEB, 0x34], .usbc 0x34),
    ([0xEC, 0x34, 0x12], .cpxAbs 0x1234), ([0xED, 0x34, 0x12], .sbcAbs 0x1234), ([0xEE, 0x34, 0x12], .incAbs 0x1234), ([0xEF, 0x34, 0x12], .iscAbs 0x1234)] = true := by decide
theorem test_decode_row_F : rowDecodes [
    ([0xF0, 0x34], .beq 0x34), ([0xF1, 0x34], .sbcIndY 0x34), ([0xF2], .jam 0xF2), ([0xF3, 0x34], .iscIndY 0x34),
    ([0xF4, 0x34], .nopZpX 0xF4 0x34), ([0xF5, 0x34], .sbcZpX 0x34), ([0xF6, 0x34], .incZpX 0x34), ([0xF7, 0x34], .iscZpX 0x34),
    ([0xF8], .sed), ([0xF9, 0x34, 0x12], .sbcAbsY 0x1234), ([0xFA], .nop 0xFA), ([0xFB, 0x34, 0x12], .iscAbsY 0x1234),
    ([0xFC, 0x34, 0x12], .nopAbsX 0xFC 0x1234), ([0xFD, 0x34, 0x12], .sbcAbsX 0x1234), ([0xFE, 0x34, 0x12], .incAbsX 0x1234), ([0xFF, 0x34, 0x12], .iscAbsX 0x1234)] = true := by decide

theorem test_decode_rejects : decode [] = .rejected .noBytes ∧ decode [0xA9] = .rejected (.operandMissing 0xA9) ∧
    decode [0xAD, 0x34] = .rejected (.operandMissing 0xAD) := by decide
theorem test_decodeTableWord : decodeTableWord 24 0x1234AD = some (.ldaAbs 0x1234) ∧
    decodeTableWord 8 0xAD = some (.ldaAbs 0x0000) ∧ decodeTableWord 8 0x12 = some (.jam 0x12) := by decide

/-! ## One step -/

/-- The state of spec/95_test_vectors.md's conventions, with code at 0x8000 and other bytes in memory. -/
def start (code : List Byte) (bytes : List (Word × Byte)) : State :=
  { State.reset with
    pc := 0x8000
    mem := bytes.foldl (fun m e => m.write e.1.toNat e.2) (Memory.writeBytes [] 0x8000 code) }

/-- The next step runs and its state passes a check. -/
def steps (s : State) (check : State → Bool) : Bool :=
  match step s with
  | .next t => check t
  | .refused _ => false

/-- The next step is refused for a reason. -/
def refuses (s : State) (r : Refusal) : Bool :=
  match step s with
  | .next _ => false
  | .refused q => q == r

/-- L2.3 -/
theorem test_ldaImm : steps { start [0xA9, 0x00] [] with a := 0x55 } (fun t => t.a == 0x00 && t.z && !t.n && t.pc == 0x8002 && t.cycles == 2) = true := by decide
/-- L2.1 -/
theorem test_ldaAbsX_cross : steps { start [0xBD, 0xF0, 0x12] [(0x1310, 0x99)] with x := 0x20 } (fun t => t.a == 0x99 && t.n && t.cycles == 5) = true := by decide
/-- L2.1 -/
theorem test_ldaAbsX_wrap : steps { start [0xBD, 0xFF, 0xFF] [(0x0001, 0x5E)] with x := 0x02 } (fun t => t.a == 0x5E && t.cycles == 5) = true := by decide
/-- L2.1 -/
theorem test_ldaIndX_zeroPage : steps { start [0xA1, 0xFE] [(0x00FF, 0x34), (0x0000, 0x12), (0x0100, 0x55), (0x1234, 0x66)] with x := 0x01 } (fun t => t.a == 0x66 && t.cycles == 6) = true := by decide
/-- L2.1 -/
theorem test_ldaIndY_pointerAtFF : steps { start [0xB1, 0xFF] [(0x00FF, 0x00), (0x0000, 0x30), (0x0100, 0x40), (0x3000, 0x79)] with y := 0x00 } (fun t => t.a == 0x79) = true := by decide
/-- L2.3 -/
theorem test_ldxZpY_wrap : steps { start [0xB6, 0xF0] [(0x0010, 0x11)] with y := 0x20 } (fun t => t.x == 0x11 && t.cycles == 4) = true := by decide
/-- R115 -/
theorem test_ldyImm : steps (start [0xA0, 0xDC] []) (fun t => t.y == 0xDC && t.n && !t.z) = true := by decide
/-- L2.3 -/
theorem test_staAbsX_cross : steps { start [0x9D, 0xF0, 0x12] [] with x := 0x20, a := 0x44 } (fun t => t.read 0x1310 == 0x44 && t.cycles == 5 && !t.z && !t.n) = true := by decide
/-- L2.1 -/
theorem test_staIndY_cross : steps { start [0x91, 0x10] [(0x0010, 0xFF), (0x0011, 0x20)] with y := 0x01, a := 0x3C } (fun t => t.read 0x2100 == 0x3C && t.cycles == 6) = true := by decide
/-- R117 -/
theorem test_stxZpY_wrap : steps { start [0x96, 0xFF] [] with x := 0x07, y := 0x01 } (fun t => t.read 0x0000 == 0x07) = true := by decide
/-- R118 -/
theorem test_styAbs : steps { start [0x8C, 0x00, 0x02] [] with y := 0x09 } (fun t => t.read 0x0200 == 0x09) = true := by decide
/-- L2.3 -/
theorem test_tax : steps { start [0xAA] [] with a := 0x80 } (fun t => t.x == 0x80 && t.n && !t.z && t.cycles == 2) = true := by decide
/-- R120 -/
theorem test_tay : steps { start [0xA8] [] with a := 0xFF } (fun t => t.y == 0xFF && t.n) = true := by decide
/-- R121 -/
theorem test_txa : steps { start [0x8A] [] with x := 0x01, n := true } (fun t => t.a == 0x01 && !t.n && !t.z) = true := by decide
/-- R122 -/
theorem test_tya : steps { start [0x98] [] with y := 0x80 } (fun t => t.a == 0x80 && t.n) = true := by decide
/-- L2.3 -/
theorem test_tsx : steps { start [0xBA] [] with sp := 0x00 } (fun t => t.x == 0x00 && t.z) = true := by decide
/-- L2.3 -/
theorem test_txs : steps { start [0x9A] [] with x := 0x00 } (fun t => t.sp == 0x00 && !t.z && !t.n) = true := by decide
/-- L2.4 -/
theorem test_pha_doc : steps { start [0x48] [] with a := 0x5A } (fun t => t.read 0x01FC == 0x5A && t.sp == 0xFC && t.cycles == 3) = true := by decide
/-- L1.10 -/
theorem test_pha_wrap_nmos : steps { start [0x48] [] with a := 0x5A, sp := 0x00, params := { Params.default with stackConvention := .nmos } } (fun t => t.read 0x0100 == 0x5A && t.sp == 0xFF) = true := by decide
/-- L2.4 -/
theorem test_php_doc : steps { start [0x08] [] with n := true, c := true, i := true } (fun t => t.read 0x01FC == 0xB5 && t.sp == 0xFC && t.cycles == 3) = true := by decide
/-- L2.4 -/
theorem test_php_nmos : steps { start [0x08] [] with n := true, c := true, i := true, params := { Params.default with stackConvention := .nmos } } (fun t => t.read 0x01FD == 0xB5 && t.sp == 0xFC) = true := by decide
/-- L2.4 -/
theorem test_pla : steps { start [0x68] [(0x01FD, 0x00)] with a := 0x55 } (fun t => t.a == 0x00 && t.z && t.sp == 0xFE && t.cycles == 4) = true := by decide
/-- L2.4 -/
theorem test_plp_ff : steps { start [0x28] [(0x01FD, 0xFF)] with i := false } (fun t => t.n && t.v && t.d && t.i && t.z && t.c && !t.b && t.sp == 0xFE && t.cycles == 4) = true := by decide
/-- L2.4 -/
theorem test_plp_00 : steps { start [0x28] [(0x01FD, 0x00)] with b := true, i := true } (fun t => !t.n && !t.v && !t.d && !t.i && !t.z && !t.c && t.b) = true := by decide
/-- L2.2 -/
theorem test_adc_overflow : steps { start [0x69, 0x50] [] with a := 0x50 } (fun t => t.a == 0xA0 && t.n && t.v && !t.z && !t.c && t.cycles == 2) = true := by decide
/-- L2.2 -/
theorem test_adc_decimal : steps { start [0x69, 0x01] [] with a := 0x99, d := true } (fun t => t.a == 0x00 && t.n && !t.v && !t.z && t.c) = true := by decide
/-- L2.2 -/
theorem test_sbc_overflow : steps { start [0xE9, 0xB0] [] with a := 0x50, c := true } (fun t => t.a == 0xA0 && t.n && t.v && !t.z && !t.c) = true := by decide
/-- L2.2 -/
theorem test_sbc_decimal : steps { start [0xE9, 0x34] [] with a := 0x21, c := true, d := true } (fun t => t.a == 0x87 && !t.c) = true := by decide
/-- L2.5 -/
theorem test_and : steps { start [0x29, 0x3C] [] with a := 0xF0 } (fun t => t.a == 0x30 && !t.n && !t.z) = true := by decide
/-- L2.5 -/
theorem test_ora : steps { start [0x09, 0x00] [] with a := 0x00 } (fun t => t.a == 0x00 && t.z) = true := by decide
/-- L2.5 -/
theorem test_eor : steps { start [0x49, 0xFF] [] with a := 0xAA } (fun t => t.a == 0x55 && !t.n) = true := by decide
/-- L2.5 -/
theorem test_cmp_less : steps { start [0xC9, 0x20] [] with a := 0x10 } (fun t => t.n && !t.z && !t.c && t.a == 0x10) = true := by decide
/-- L2.5 -/
theorem test_cmp_unsigned : steps { start [0xC9, 0x80] [] with a := 0x00 } (fun t => t.n && !t.z && !t.c) = true := by decide
/-- L2.5 -/
theorem test_cpx : steps { start [0xE0, 0x00] [] with x := 0xFF } (fun t => t.n && !t.z && t.c) = true := by decide
/-- L2.5 -/
theorem test_cpy : steps { start [0xC0, 0x06] [] with y := 0x05 } (fun t => t.n && !t.z && !t.c) = true := by decide
/-- L2.5 -/
theorem test_bit_set : steps { start [0x24, 0x10] [(0x0010, 0xC0)] with a := 0x01 } (fun t => t.n && t.v && t.z && t.a == 0x01 && t.cycles == 3) = true := by decide
/-- L2.5 -/
theorem test_bit_clear : steps { start [0x24, 0x10] [(0x0010, 0x3F)] with a := 0xFF, n := true, v := true } (fun t => !t.n && !t.v && !t.z) = true := by decide
/-- L2.5 -/
theorem test_inc : steps (start [0xE6, 0x10] [(0x0010, 0xFF)]) (fun t => t.read 0x0010 == 0x00 && t.z && t.cycles == 5) = true := by decide
/-- L2.5 -/
theorem test_dec : steps (start [0xC6, 0x10] [(0x0010, 0x00)]) (fun t => t.read 0x0010 == 0xFF && t.n && t.cycles == 5) = true := by decide
/-- L2.5 -/
theorem test_inx : steps { start [0xE8] [] with x := 0xFF } (fun t => t.x == 0x00 && t.z && t.cycles == 2) = true := by decide
/-- R141 -/
theorem test_iny : steps { start [0xC8] [] with y := 0xFF } (fun t => t.y == 0x00 && t.z) = true := by decide
/-- R142 -/
theorem test_dex : steps { start [0xCA] [] with x := 0x01 } (fun t => t.x == 0x00 && t.z) = true := by decide
/-- L2.5 -/
theorem test_dey : steps { start [0x88] [] with y := 0x00 } (fun t => t.y == 0xFF && t.n) = true := by decide
/-- L1.2 -/
theorem test_asl_acc : steps { start [0x0A] [] with a := 0xAA, c := true } (fun t => t.a == 0x54 && t.c && !t.n && !t.z && t.cycles == 2) = true := by decide
/-- L2.6 -/
theorem test_asl_zp : steps (start [0x06, 0x10] [(0x0010, 0xFF)]) (fun t => t.read 0x0010 == 0xFE && t.n && t.c && t.a == 0x00 && t.cycles == 5) = true := by decide
/-- L1.1 -/
theorem test_lsr_acc : steps { start [0x4A] [] with a := 0xAA } (fun t => t.a == 0x55 && !t.c && !t.n && !t.z && t.cycles == 2) = true := by decide
/-- L1.3 -/
theorem test_rol_acc : steps { start [0x2A] [] with a := 0xAA, c := true } (fun t => t.a == 0x55 && t.c && !t.n && !t.z) = true := by decide
/-- L1.4 -/
theorem test_ror_acc : steps { start [0x6A] [] with a := 0xAA, c := true } (fun t => t.a == 0xD5 && !t.c && t.n && !t.z && t.cycles == 2) = true := by decide
/-- L1.7 -/
theorem test_bpl_taken_cross : steps { start [0x10, 0x80] [] with n := false } (fun t => t.pc == 0x7F82 && t.cycles == 4) = true := by decide
/-- L1.7 -/
theorem test_bpl_not_taken : steps { start [0x10, 0x10] [] with n := true } (fun t => t.pc == 0x8002 && t.cycles == 2) = true := by decide
/-- L1.7 -/
theorem test_bmi_taken_cross : steps { start [0x30, 0x80] [] with n := true } (fun t => t.pc == 0x7F82 && t.cycles == 4) = true := by decide
/-- L1.7 -/
theorem test_bmi_not_taken : steps { start [0x30, 0x10] [] with n := false } (fun t => t.pc == 0x8002 && t.cycles == 2) = true := by decide
/-- L1.7 -/
theorem test_bvc_taken_cross : steps { start [0x50, 0x80] [] with v := false } (fun t => t.pc == 0x7F82 && t.cycles == 4) = true := by decide
/-- L1.7 -/
theorem test_bvc_not_taken : steps { start [0x50, 0x10] [] with v := true } (fun t => t.pc == 0x8002 && t.cycles == 2) = true := by decide
/-- L1.7 -/
theorem test_bvs_taken_cross : steps { start [0x70, 0x80] [] with v := true } (fun t => t.pc == 0x7F82 && t.cycles == 4) = true := by decide
/-- L1.7 -/
theorem test_bvs_not_taken : steps { start [0x70, 0x10] [] with v := false } (fun t => t.pc == 0x8002 && t.cycles == 2) = true := by decide
/-- L1.7 -/
theorem test_bcc_taken_cross : steps { start [0x90, 0x80] [] with c := false } (fun t => t.pc == 0x7F82 && t.cycles == 4) = true := by decide
/-- L1.7 -/
theorem test_bcc_not_taken : steps { start [0x90, 0x10] [] with c := true } (fun t => t.pc == 0x8002 && t.cycles == 2) = true := by decide
/-- L1.7 -/
theorem test_bcs_taken_cross : steps { start [0xB0, 0x80] [] with c := true } (fun t => t.pc == 0x7F82 && t.cycles == 4) = true := by decide
/-- L1.7 -/
theorem test_bcs_not_taken : steps { start [0xB0, 0x10] [] with c := false } (fun t => t.pc == 0x8002 && t.cycles == 2) = true := by decide
/-- L1.7 -/
theorem test_bne_taken_cross : steps { start [0xD0, 0x80] [] with z := false } (fun t => t.pc == 0x7F82 && t.cycles == 4) = true := by decide
/-- L1.7 -/
theorem test_bne_not_taken : steps { start [0xD0, 0x10] [] with z := true } (fun t => t.pc == 0x8002 && t.cycles == 2) = true := by decide
/-- L1.7 -/
theorem test_beq_taken_cross : steps { start [0xF0, 0x80] [] with z := true } (fun t => t.pc == 0x7F82 && t.cycles == 4) = true := by decide
/-- L1.7 -/
theorem test_beq_not_taken : steps { start [0xF0, 0x10] [] with z := false } (fun t => t.pc == 0x8002 && t.cycles == 2) = true := by decide
/-- L2.7 -/
theorem test_jmpAbs : steps (start [0x4C, 0x34, 0x12] []) (fun t => t.pc == 0x1234 && t.cycles == 3) = true := by decide
/-- L1.8 -/
theorem test_jmpInd_pageBug : steps (start [0x6C, 0xFF, 0x10] [(0x10FF, 0x00), (0x1000, 0x90), (0x1100, 0x80)]) (fun t => t.pc == 0x9000 && t.cycles == 5) = true := by decide
/-- L2.7 -/
theorem test_jsr_doc : steps (start [0x20, 0x34, 0x12] []) (fun t => t.read 0x01FC == 0x80 && t.read 0x01FB == 0x02 && t.sp == 0xFB && t.pc == 0x1234 && t.cycles == 6) = true := by decide
/-- L2.7 -/
theorem test_jsr_nmos : steps { start [0x20, 0x34, 0x12] [] with params := { Params.default with stackConvention := .nmos } } (fun t => t.read 0x01FD == 0x80 && t.read 0x01FC == 0x02 && t.sp == 0xFB) = true := by decide
/-- L2.7 -/
theorem test_rts : steps { start [0x60] [(0x01FB, 0x0E), (0x01FC, 0x80)] with sp := 0xFB } (fun t => t.pc == 0x800F && t.sp == 0xFD && t.cycles == 6) = true := by decide
/-- L2.7 -/
theorem test_rti : steps { start [0x40] [(0x01FA, 0x34), (0x01FB, 0x04), (0x01FC, 0x80)] with sp := 0xFA, i := false } (fun t => t.i && !t.n && !t.c && !t.b && t.pc == 0x8004 && t.sp == 0xFD && t.cycles == 6) = true := by decide
/-- L2.7 -/
theorem test_brk : steps { start [0x00] [(0xFFFE, 0x00), (0xFFFF, 0x90)] with i := false } (fun t => t.read 0x01FC == 0x80 && t.read 0x01FB == 0x02 && t.read 0x01FA == 0x30 && t.sp == 0xFA && t.pc == 0x9000 && t.i && t.b && t.cycles == 7) = true := by decide
/-- L2.7 -/
theorem test_brk_keepsD : steps { start [0x00] [] with i := false, d := true } (fun t => t.read 0x01FA == 0x38 && t.d) = true := by decide
/-- L2.8 -/
theorem test_clc : steps { start [0x18] [] with c := true } (fun t => !t.c && t.pc == 0x8001 && t.cycles == 2) = true := by decide
/-- L2.8 -/
theorem test_sec : steps { start [0x38] [] with c := false } (fun t => t.c) = true := by decide
/-- L2.8 -/
theorem test_cli : steps { start [0x58] [] with i := true } (fun t => !t.i && t.iPoll) = true := by decide
/-- L2.8 -/
theorem test_sei : steps { start [0x78] [] with i := false, iPoll := false } (fun t => t.i && !t.iPoll) = true := by decide
/-- L2.8 -/
theorem test_cld : steps { start [0xD8] [] with d := true } (fun t => !t.d) = true := by decide
/-- L2.8 -/
theorem test_sed : steps { start [0xF8] [] with d := false } (fun t => t.d) = true := by decide
/-- L2.8 -/
theorem test_clv : steps { start [0xB8] [] with v := true } (fun t => !t.v) = true := by decide
/-- L2.8 -/
theorem test_nop : steps (start [0xEA] []) (fun t => t.pc == 0x8001 && t.cycles == 2 && t.a == 0x00) = true := by decide
/-- L2.9 -/
theorem test_nop_absX_cross : steps { start [0x1C, 0xF0, 0x12] [] with x := 0x20 } (fun t => t.pc == 0x8003 && t.cycles == 5 && t.x == 0x20) = true := by decide
/-- L2.9 -/
theorem test_jam : steps (start [0x02] []) (fun t => t.halted && t.pc == 0x8001 && t.cycles == 0) = true := by decide
/-- L2.9 -/
theorem test_slo : steps { start [0x07, 0x10] [(0x0010, 0x81)] with a := 0x00 } (fun t => t.read 0x0010 == 0x02 && t.a == 0x02 && t.c) = true := by decide
/-- L2.9 -/
theorem test_rla : steps { start [0x27, 0x10] [(0x0010, 0x80)] with a := 0xFF, c := true } (fun t => t.read 0x0010 == 0x01 && t.a == 0x01 && t.c) = true := by decide
/-- L2.9 -/
theorem test_sre : steps { start [0x47, 0x10] [(0x0010, 0x03)] with a := 0x80 } (fun t => t.read 0x0010 == 0x01 && t.a == 0x81 && t.c && t.n) = true := by decide
/-- L2.9 -/
theorem test_rra : steps { start [0x67, 0x10] [(0x0010, 0x02)] with a := 0x10 } (fun t => t.read 0x0010 == 0x01 && t.a == 0x11 && !t.c) = true := by decide
/-- L2.9 -/
theorem test_sax : steps { start [0x87, 0x10] [] with a := 0xF0, x := 0x3C } (fun t => t.read 0x0010 == 0x30 && t.cycles == 3 && !t.z && !t.n) = true := by decide
/-- L2.9 -/
theorem test_lax : steps { start [0xA7, 0x10] [(0x0010, 0x00)] with a := 0x05, x := 0x05 } (fun t => t.a == 0x00 && t.x == 0x00 && t.z) = true := by decide
/-- L2.9 -/
theorem test_dcp : steps { start [0xC7, 0x10] [(0x0010, 0x11)] with a := 0x10 } (fun t => t.read 0x0010 == 0x10 && t.z && t.c) = true := by decide
/-- L2.9 -/
theorem test_isc : steps { start [0xE7, 0x10] [(0x0010, 0x04)] with a := 0x10, c := true } (fun t => t.read 0x0010 == 0x05 && t.a == 0x0B && t.c) = true := by decide
/-- L2.9 -/
theorem test_anc : steps { start [0x0B, 0x80] [] with a := 0xFF } (fun t => t.a == 0x80 && t.n && t.c) = true := by decide
/-- L2.9 -/
theorem test_alr : steps { start [0x4B, 0x03] [] with a := 0x03 } (fun t => t.a == 0x01 && t.c) = true := by decide
/-- L2.9 -/
theorem test_arr_carry : steps { start [0x6B, 0xFF] [] with a := 0xFF, c := true } (fun t => t.a == 0xFF && t.n && t.c && !t.v) = true := by decide
/-- L2.9 -/
theorem test_arr : steps { start [0x6B, 0xC0] [] with a := 0xFF, c := false } (fun t => t.a == 0x60 && t.c && !t.v) = true := by decide
/-- L2.9 -/
theorem test_sbx : steps { start [0xCB, 0x01] [] with a := 0xF0, x := 0x0F } (fun t => t.x == 0xFF && t.n && !t.c) = true := by decide
/-- L2.9 -/
theorem test_usbc : steps { start [0xEB, 0x01] [] with a := 0x03, c := true } (fun t => t.a == 0x02 && t.c) = true := by decide
/-- L2.9 -/
theorem test_shaAbsY : steps { start [0x9F, 0x00, 0x12] [] with y := 0x10, a := 0xFF, x := 0xFF } (fun t => t.read 0x1210 == 0x13 && t.cycles == 5) = true := by decide
/-- L2.9 -/
theorem test_shx : steps { start [0x9E, 0x00, 0x12] [] with y := 0x01, x := 0xFF } (fun t => t.read 0x1201 == 0x13) = true := by decide
/-- L2.9 -/
theorem test_shy : steps { start [0x9C, 0x00, 0x30] [] with x := 0x05, y := 0x01 } (fun t => t.read 0x3005 == 0x01) = true := by decide
/-- L2.9 -/
theorem test_tas : steps { start [0x9B, 0x00, 0x7E] [] with a := 0xF0, x := 0xFF, y := 0x00 } (fun t => t.sp == 0xF0 && t.read 0x7E00 == 0x70) = true := by decide
/-- L2.9 -/
theorem test_las : steps { start [0xBB, 0x10, 0x00] [(0x0010, 0xF1)] with sp := 0xFF } (fun t => t.a == 0xF1 && t.x == 0xF1 && t.sp == 0xF1 && t.n && t.cycles == 4) = true := by decide
/-- L2.9 -/
theorem test_jam_stays : steps { start [0x02] [] with halted := true } (fun t => t.halted && t.pc == 0x8000) = true := by
  decide
/-- L2.9 -/
theorem test_arr_decimal : refuses { start [0x6B, 0xC0] [] with a := 0xFF, d := true } .decimalArr = true := by decide
/-- L2.9 -/
theorem test_sha_cross : refuses { start [0x9F, 0xF0, 0x12] [] with y := 0x20, a := 0xFF, x := 0xFF }
    (.unstableStore 0x9F) = true := by decide
/-- L2.9 -/
theorem test_policy_refuse : refuses { start [0xA7, 0x10] [] with
    params := { Params.default with undocPolicy := .refuse } } (.undocumentedRefused 0xA7) = true := by decide
/-- R187: X = 0x0F, i = 0xF0 gives A = 0x00, Z = 1, for every draw. -/
theorem test_ane : ∀ t, step { start [0x8B, 0xF0] [] with x := 0x0F } = .next t → t.a = 0 ∧ t.z = true := by
  intro t h
  have hx : step { start [0x8B, 0xF0] [] with x := 0x0F } =
      .next (({ start [0x8B, 0xF0] [] with
        x := 0x0F, a := (0x00 ||| Config.magic 0) &&& 0x0F &&& 0xF0, draws := 1, pc := 0x8002, cycles := 2,
        iPoll := true }).setNZ ((0x00 ||| Config.magic 0) &&& 0x0F &&& 0xF0)) := rfl
  have hz : ∀ m : Byte, (0x00 ||| m) &&& 0x0F &&& 0xF0 = 0 := by decide
  rw [hx, hz] at h
  cases h
  exact ⟨rfl, rfl⟩
/-- R188: A = 0xFF, i = 0x5A gives A = X = 0x5A, for every draw. -/
theorem test_lxa : ∀ t, step { start [0xAB, 0x5A] [] with a := 0xFF } = .next t → t.a = 0x5A ∧ t.x = 0x5A := by
  intro t h
  have hx : step { start [0xAB, 0x5A] [] with a := 0xFF } =
      .next (({ start [0xAB, 0x5A] [] with
        a := (0xFF ||| Config.magic 0) &&& 0x5A, x := (0xFF ||| Config.magic 0) &&& 0x5A, draws := 1, pc := 0x8002,
        cycles := 2, iPoll := true }).setNZ ((0xFF ||| Config.magic 0) &&& 0x5A)) := rfl
  have hz : ∀ m : Byte, (0xFF ||| m) &&& 0x5A = 0x5A := by decide
  rw [hx, hz] at h
  cases h
  exact ⟨rfl, rfl⟩
/-- L1.7: BNE at 0x80FE under the two readings of the branch penalty. -/
theorem test_branch_reference :
    steps { start [] [(0x80FE, 0xD0)] with pc := 0x80FE } (fun t => t.pc == 0x8100 && t.cycles == 3) = true ∧
    steps { start [] [(0x80FE, 0xD0)] with pc := 0x80FE, params := { Params.default with branchPageRef := .opcodeAddr } }
      (fun t => t.pc == 0x8100 && t.cycles == 4) = true := by decide
/-- L2.2: D = 1 under `DECIMAL_MODE = none`. -/
theorem test_decimal_none : steps { start [0x69, 0x46] [] with
    a := 0x58, c := true, d := true, params := { Params.default with decimalMode := .none } }
    (fun t => t.a == 0x9F && t.n && t.v && !t.c) = true := by decide

/-- `INTERRUPT_INPUTS = driven`, the rest default. -/
def driven : Params := { Params.default with interruptInputs := .driven }

/-- L2.10: NMI -/
theorem test_nmi : steps { start [0xEA] [(0xFFFB, 0xA0)] with pc := 0x8005, i := false, nmiIn := true, params := driven }
    (fun t => t.read 0x01FC == 0x80 && t.read 0x01FB == 0x05 && t.read 0x01FA == 0x20 && t.sp == 0xFA && t.i &&
      t.pc == 0xA000 && t.cycles == 7 && !t.nmiPending) = true := by decide
/-- L2.10: NMI held -/
theorem test_nmi_held : steps { start [0xEA] [] with nmiIn := true, nmiPrev := true, params := driven }
    (fun t => t.pc == 0x8001) = true := by decide
/-- L2.10: IRQ enabled -/
theorem test_irq : steps { start [0xEA] [(0xFFFF, 0x90)] with i := false, iPoll := false, irqIn := true, params := driven }
    (fun t => t.read 0x01FA == 0x20 && t.pc == 0x9000 && t.i && t.cycles == 7) = true := by decide
/-- L2.10: IRQ masked -/
theorem test_irq_masked : steps { start [0xEA] [] with irqIn := true, params := driven }
    (fun t => t.pc == 0x8001) = true := by decide
/-- P6, steps 1 and 2: CLI does not let a waiting IRQ in at the next boundary. -/
theorem test_cli_delay : steps { start [0x58, 0xEA] [] with irqIn := true, params := driven }
    (fun t => !t.i && t.iPoll && steps t (fun u => u.pc == 0x8002 && !u.iPoll)) = true := by decide

/-- L2.11: power-on reset with the defaults -/
theorem test_power_on : (powerOnReset Params.default { Launch.zero with mem := [(0xFFFD, 0x80)] }).pc = 0x8000 ∧
    State.reset.p = 0x24 ∧ State.reset.sp = 0xFD := by decide
/-- L2.11: the loader's example -/
theorem test_loader : programImage ⟨[0xA9, 0x01, 0x02], 0x8000, 0x8000⟩ =
    [(0x8000, 0xA9), (0x8001, 0x01), (0x8002, 0x02), (0xFFFD, 0x80)] := by decide
theorem test_reset_runs_placed_word : steps (State.reset.withFetchWord 16 0x42A9) (fun t => t.a == 0x42) = true := by decide

/-! ## Witnesses: states and operands that meet each statement's hypotheses together -/

/-- Registers, flags and PC at the ends of their ranges, decimal mode on, default parameters. -/
def edge : State :=
  { State.reset with
    a := 0xFF, x := 0x01, y := 0xFF, sp := 0x00, pc := 0xFFFE, n := true, v := true, d := true, z := true, c := true
    mem := [(0x0000, 0x80), (0x00FF, 0x12), (0x01FF, 0xFF), (0xFFFE, 0x9B), (0xFFFF, 0xFF)] }

/-- The same under the other value of every parameter that is a choice of two, but for the undocumented opcodes. -/
def edge2 : State :=
  { edge with params :=
    { haltOpcodes := [], stackConvention := .nmos, decimalMode := .none, undocPolicy := .nmos
      branchPageRef := .opcodeAddr, interruptInputs := .driven } }

/-- Each instruction executes in the state, and has the mnemonic. -/
abbrev allExecute (s : State) (l : List (Instr × Mnemonic)) : Prop := ∀ e ∈ l, Executes e.1 s ∧ e.1.mnemonic = e.2

/-- What an instruction leaves, where it answers a next state. -/
def after (i : Instr) (s : State) : State :=
  match exec i s with
  | .next t => t
  | .refused _ => s

/-- What a step leaves, where it answers a next state. -/
def stepped (s : State) : State :=
  match step s with
  | .next t => t
  | .refused _ => s

theorem wit_DecodeOfEncode : (Instr.tas 0xFFFF).wf = true ∧ (Instr.nopAbsX 0xFC 0xFFFF).wf = true := by decide
theorem wit_EncodeOfDecode : decode [0x6C, 0xFF, 0xFF, 0x07] = .instr (.jmpInd 0xFFFF) [0x07] := by decide
theorem wit_StepRunsDecodedInstruction :
    RunsInstruction edge ∧ decode (edge.readBytes edge.pc 3) = .instr (.tas 0x80FF) [] := by decide
theorem wit_StoredWordRunsNext :
    RunsInstruction edge ∧ edge.mem.wf ∧ decodeTableWord 24 0xFFFF9B = some (.tas 0xFFFF) := by decide
theorem wit_OperandsFit_reads : (Instr.ane 0xFF).wf = true ∧ (Instr.ane 0xFF).mnemonic ∈ readsOperand ∧
    (Instr.aslAcc).wf = true ∧ Instr.aslAcc.mnemonic ∈ readsOperand := by decide
theorem wit_OperandsFit_stores : (Instr.tas 0xFFFF).wf = true ∧ (Instr.tas 0xFFFF).mnemonic ∈ storesOperand := by decide
theorem wit_OperandsFit_jumps : (Instr.jmpInd 0xFFFF).wf = true ∧ (Instr.jmpInd 0xFFFF).mnemonic ∈ jumpsToOperand := by
  decide
theorem wit_OperandsFit_branches : (Instr.beq 0x80).wf = true ∧ (Instr.beq 0x80).mnemonic ∈ branches := by decide
theorem wit_SnapshotShowsTheState : ((0xFF : Byte), edge.readBytes 0xFF00 256) ∈ (edge.snapshot [0x00, 0xFF]).window := by
  exact List.mem_cons_of_mem _ (List.mem_singleton.2 rfl)
theorem wit_MemoryReadsAndWrites : edge.mem.wf := by decide
theorem wit_CanonicalMemoriesAgree :
    edge.mem.wf ∧ edge2.mem.wf ∧ ∀ a : Word, edge.mem.read a.toNat = edge2.mem.read a.toNat :=
  ⟨by decide, by decide, fun _ => rfl⟩
/-- The instruction at `edge` is TAS across a page, which is refused, so this steps `edge` with INC there. -/
theorem wit_StepKeepsMemoryCanonical : (edge.withFetchWord 24 0xFFFFEE).mem.wf ∧
    step (edge.withFetchWord 24 0xFFFFEE) = .next (stepped (edge.withFetchWord 24 0xFFFFEE)) := ⟨by decide, rfl⟩
theorem wit_PushAndPull : edge.params.stackConvention = .doc ∧ edge2.params.stackConvention = .nmos ∧ edge.mem.wf ∧
    edge2.mem.wf := by decide
theorem wit_StackStaysInItsPage : edge.mem.wf ∧ (0x00FF : Word).toNat < 0x0100 ∧ 0x01FF < (0x0200 : Word).toNat ∧
    edge.params.stackConvention = .doc ∧ edge.sp = 0x00 ∧ { edge with sp := 0xFF }.params.stackConvention = .doc ∧
    edge2.mem.wf ∧ edge2.params.stackConvention = .nmos ∧ edge2.sp = 0x00 := by decide
theorem wit_LoadsWriteTheirRegister : allExecute edge [(.ldaAbsX 0xFFFF, .LDA), (.ldxZpY 0xFF, .LDX), (.ldyImm 0x00, .LDY)] := by decide
theorem wit_StoresWriteMemory : allExecute edge [(.staAbsY 0xFFFF, .STA), (.stxZpY 0xFF, .STX), (.styZpX 0xFF, .STY)] := by decide
theorem wit_TransfersCopy : allExecute edge [(.tax, .TAX), (.tay, .TAY), (.txa, .TXA), (.tya, .TYA), (.tsx, .TSX)] := by decide
theorem wit_AccumulatorOnTheStack : allExecute edge [(.pha, .PHA), (.pla, .PLA)] ∧
    allExecute edge2 [(.pha, .PHA), (.pla, .PLA)] := by decide
theorem wit_StatusOnTheStackAndTxs : allExecute edge [(.php, .PHP), (.plp, .PLP), (.txs, .TXS)] ∧
    allExecute edge2 [(.php, .PHP), (.plp, .PLP), (.txs, .TXS)] := by decide
theorem wit_AddAndSubtract :
    allExecute edge [(.adcImm 0x99, .ADC), (.sbcIndY 0xFF, .SBC)] ∧ edge.decimal = true ∧
    allExecute edge2 [(.adcImm 0x80, .ADC), (.sbcImm 0x80, .SBC)] ∧ edge2.decimal = false := by
  decide
theorem wit_DecimalArithmeticIsDecimal : 0 < 100 ∧ 99 < 100 := by decide
/-- R101's own examples: Z is the binary sum's, N and V those of the sum before the high digit is corrected. -/
theorem test_adcDec_flags : adcDec 0x99 0x01 false = ⟨0x00, true, false, false, true⟩ ∧
    (adcDec 0x58 0x46 true).value = 0x05 ∧ (adcDec 0x58 0x46 true).c = true := by decide
theorem wit_LogicWritesA :
    allExecute edge [(.andIndX 0xFF, .AND), (.oraImm 0x00, .ORA), (.eorImm 0xFF, .EOR)] ∧
    (0x00 : Byte) = edge.a ^^^ operandValue (.eorImm 0xFF) edge := by decide
theorem wit_Compares : allExecute edge [(.cmpImm 0xFF, .CMP), (.cpxImm 0x02, .CPX), (.cpyImm 0x00, .CPY)] := by decide
theorem wit_BitTestsMemory : allExecute edge [(.bitZp 0xFF, .BIT), (.bitAbs 0xFFFF, .BIT)] := by decide
theorem wit_IncrementsAndDecrements : allExecute edge [(.incAbsX 0xFFFF, .INC), (.decZp 0x10, .DEC), (.inx, .INX),
    (.iny, .INY), (.dex, .DEX), (.dey, .DEY)] := by decide
theorem wit_ShiftsAndRotates_acc :
    allExecute edge [(.aslAcc, .ASL), (.lsrAcc, .LSR), (.rolAcc, .ROL), (.rorAcc, .ROR)] ∧
    operandSource .rolAcc edge = .acc ∧
    (0xFF : Byte) = BitVec.ofNat 8 (2 * (operandValue .rolAcc edge).toNat + edge.c.toNat) := by decide
theorem wit_ShiftsAndRotates_memory :
    allExecute edge [(.aslZp 0x00, .ASL), (.lsrAbsX 0xFFFF, .LSR), (.rolAbs 0xFFFF, .ROL), (.rorZpX 0xFF, .ROR)] ∧
    operandSource (.aslZp 0x00) edge ≠ .acc ∧ (0x00 : Byte) = BitVec.ofNat 8 (2 * (operandValue (.aslZp 0x00) edge).toNat) := by
  decide
/-- Conditions true and false, under both references of the page penalty, with the two extreme offsets. -/
theorem wit_BranchesFollowTheirFlag :
    (∀ s ∈ [edge, edge2], allExecute s [(.bpl 0x80, .BPL), (.bmi 0x80, .BMI), (.bvc 0x7F, .BVC), (.bvs 0x7F, .BVS),
      (.bcc 0x80, .BCC), (.bcs 0x7F, .BCS), (.bne 0x80, .BNE), (.beq 0x7F, .BEQ)]) ∧
    edge.params.branchPageRef ≠ edge2.params.branchPageRef := by decide
theorem wit_JumpsAndSubroutines : allExecute edge [(.jmpAbs 0xFFFF, .JMP), (.jmpInd 0x00FF, .JMP), (.jsr 0xFFFF, .JSR),
    (.rts, .RTS)] := by decide
/-- A state in which code has stored a byte outside the stack. -/
def busy (s : State) : State := s.write 0x4000 0x55

/-- What the two return statements ask of a call, its return and the bytes it pushed, after code that stored a byte. -/
abbrev comesBack (call ret : Instr) (s : State) (pushed : List Word) : Prop :=
  Executes call s ∧ s.mem.wf ∧ exec call s = .next (after call s) ∧ Executes ret (busy (after call s)) ∧
  (busy (after call s)).sp = (after call s).sp ∧ (busy (after call s)).mem ≠ (after call s).mem ∧
  (busy (after call s)).params.stackConvention = s.params.stackConvention ∧
  ∀ a ∈ pushed, (busy (after call s)).read a = (after call s).read a

theorem wit_ReturnAfterCall :
    comesBack (.jsr 0xFFFF) .rts edge [edge.pushAddress, (edge.push 0).pushAddress] :=
  ⟨by decide, by decide, rfl, by decide, by decide, by decide, by decide,
    List.forall_mem_cons.2 ⟨by decide, List.forall_mem_singleton.2 (by decide)⟩⟩
theorem wit_ReturnAfterCall_nmos :
    comesBack (.jsr 0xFFFF) .rts edge2 [edge2.pushAddress, (edge2.push 0).pushAddress] :=
  ⟨by decide, by decide, rfl, by decide, by decide, by decide, by decide,
    List.forall_mem_cons.2 ⟨by decide, List.forall_mem_singleton.2 (by decide)⟩⟩
theorem wit_BrkEntersItsHandler : Executes .brk edge ∧ Executes .brk edge2 := by decide
theorem wit_RtiRestores : Executes .rti edge ∧ Executes .rti edge2 := by decide
theorem wit_ReturnAfterBreak :
    comesBack .brk .rti edge [edge.pushAddress, (edge.push 0).pushAddress, ((edge.push 0).push 0).pushAddress] :=
  ⟨by decide, by decide, rfl, by decide, by decide, by decide, by decide,
    List.forall_mem_cons.2 ⟨by decide, List.forall_mem_cons.2 ⟨by decide, List.forall_mem_singleton.2 (by decide)⟩⟩⟩
theorem wit_ReturnAfterBreak_nmos :
    comesBack .brk .rti edge2 [edge2.pushAddress, (edge2.push 0).pushAddress, ((edge2.push 0).push 0).pushAddress] :=
  ⟨by decide, by decide, rfl, by decide, by decide, by decide, by decide,
    List.forall_mem_cons.2 ⟨by decide, List.forall_mem_cons.2 ⟨by decide, List.forall_mem_singleton.2 (by decide)⟩⟩⟩
theorem wit_FlagInstructions : allExecute edge [(.clc, .CLC), (.sec, .SEC), (.cli, .CLI), (.sei, .SEI), (.cld, .CLD),
    (.sed, .SED), (.clv, .CLV)] := by decide
theorem wit_NopsOnlyAdvance : allExecute edge [(.nop 0xEA, .NOP), (.nopImm 0xE2 0xFF, .NOP), (.nopZp 0x64 0xFF, .NOP),
    (.nopZpX 0xF4 0xFF, .NOP), (.nopAbs 0xFFFF, .NOP), (.nopAbsX 0xFC 0xFFFF, .NOP)] := by decide
theorem wit_HaltBytesHalt : (Instr.jam 0x02).wf = true ∧ (Instr.jam 0x02).opcode ∈ edge.params.haltOpcodes ∧
    (Instr.jam 0xF2).wf = true ∧ (Instr.jam 0xF2).mnemonic = .JAM ∧ (Instr.jam 0xF2).opcode ∉ edge2.params.haltOpcodes := by
  decide
theorem wit_HaltedIsFinal : { edge with halted := true }.halted = true := by decide
/-- Each reason of a refusal arises, and so does its absence. -/
theorem wit_RefusalsExactly :
    exec (.lxa 0x00) { edge with params := { edge.params with undocPolicy := .refuse } }
      = .refused (.undocumentedRefused 0xAB) ∧
    exec (.jam 0xF2) edge2 = .refused (.undocumentedRefused 0xF2) ∧
    exec (.shaAbsY 0x00FF) edge = .refused (.unstableStore 0x9F) ∧ exec (.arr 0xFF) edge = .refused .decimalArr ∧
    exec (.arr 0xFF) edge2 = .next (after (.arr 0xFF) edge2) := ⟨rfl, rfl, rfl, rfl, rfl⟩
theorem wit_CombinedReadModifyWrite : allExecute edge [(.sloZp 0x00, .SLO), (.rlaIndX 0xFE, .RLA), (.sreAbsY 0xFFFF, .SRE),
    (.rraAbs 0x01FF, .RRA), (.dcpIndY 0xFF, .DCP), (.iscAbsX 0xFFFE, .ISC)] ∧
    allExecute edge2 [(.rraZpX 0xFF, .RRA), (.iscZp 0xFF, .ISC)] := by decide
theorem wit_CombinedLoadsAndStores : allExecute edge [(.saxIndX 0xFF, .SAX), (.laxIndY 0xFF, .LAX),
    (.las 0xFFFF, .LAS)] := by decide
theorem wit_ImmediateCombined : allExecute edge [(.anc 0x0B 0x80, .ANC), (.anc 0x2B 0x00, .ANC), (.alr 0x01, .ALR),
    (.arr 0xFF, .ARR), (.sbx 0x02, .SBX), (.usbc 0xFF, .USBC)] ∧ edge.decimal = true ∧
    allExecute edge2 [(.arr 0xFF, .ARR), (.usbc 0x00, .USBC)] ∧ edge2.decimal = false := by decide
theorem wit_MagicOperations : allExecute edge [(.ane 0xFF, .ANE), (.lxa 0xFF, .LXA)] := by decide
/-- The last address of a page and the first beyond it: indexing by 0xFF, and by 0x01. -/
theorem wit_UnstableStores :
    (∀ e ∈ [(Instr.shaAbsY 0x0001, Mnemonic.SHA), (.shaIndY 0x00, .SHA), (.shx 0x1201, .SHX), (.shy 0x12FF, .SHY),
        (.tas 0xFF01, .TAS)], Executes e.1 edge ∧ e.1.mnemonic = e.2 ∧ pageCrossed e.1 edge = true) ∧
    (∀ e ∈ [(Instr.shaAbsY 0x0000, Mnemonic.SHA), (.shaIndY 0x02, .SHA), (.shx 0x1200, .SHX), (.shy 0x12FE, .SHY),
        (.tas 0xFF00, .TAS)], Executes e.1 edge ∧ e.1.mnemonic = e.2 ∧ pageCrossed e.1 edge = false) := by decide
theorem wit_InterruptEntrySequence :
    edge.halted = false ∧ { edge with nmiPending := true }.pollInputs.pendingInterrupt = some .nmi ∧
    { edge2 with irqIn := true, iPoll := false }.pollInputs.pendingInterrupt = some .irq := by decide
/-- NMI pending, held and driven, with an IRQ waiting. -/
def nmiHeld : State := { edge2 with nmiIn := true, irqIn := true, iPoll := false }

theorem wit_HeldNmiIsTakenOnce_entry : nmiHeld.halted = false ∧ nmiHeld.pollInputs.pendingInterrupt = some .nmi ∧
    step nmiHeld = .next (stepped nmiHeld) ∧ nmiHeld.nmiIn = true ∧ nmiHeld.params.interruptInputs = .driven :=
  ⟨rfl, rfl, rfl, rfl, rfl⟩
/-- From right after that entry, a run of two steps. -/
theorem wit_HeldNmiIsTakenOnce_run : let s := stepped nmiHeld
    s.nmiPending = false ∧ s.nmiPrev = true ∧ s.nmiIn = true ∧ s.params.interruptInputs = .driven ∧
    Host.Core.run { State := State, Fault := Fault, Refusal := Refusal, step := step, reset := State.reset } 2 s
      = .next (stepped (stepped s)) := ⟨rfl, rfl, rfl, rfl, rfl⟩
theorem wit_PollingLatch : allExecute edge [(.cli, .CLI), (.sei, .SEI), (.plp, .PLP), (.rti, .RTI)] ∧
    exec .cli edge = .next (after .cli edge) ∧ exec .rti edge = .next (after .rti edge) := ⟨by decide, rfl, rfl⟩
theorem wit_LoaderImage : (Program.mk [0xA9, 0x01] 0xFFFC 0x1234).wf ∧ (Program.mk [0xA9] 0xFFFD 0x1234).wf ∧
    programCovers (Program.mk [0xA9, 0x01] 0xFFFC 0x1234) 0xFFFD = true ∧
    programCovers (Program.mk [0xA9] 0xFFFD 0x1234) 0xFFFC = false := by decide
theorem wit_MemoryFrame : (Instr.sloZp 0xFF).wf = true ∧ edge.mem.wf ∧
    exec (.sloZp 0xFF) edge = .next (after (.sloZp 0xFF) edge) ∧ (0x0100 : Word) ∉ storedAddresses (.sloZp 0xFF) edge ∧
    exec .brk edge = .next (after .brk edge) ∧ (0x00FF : Word) ∉ storedAddresses .brk edge :=
  ⟨by decide, by decide, rfl, by decide, rfl, by decide⟩
theorem wit_RegisterWriters : (after (.las 0xFFFF) edge).a ≠ edge.a ∧ (after (.sbx 0x02) edge).x ≠ edge.x ∧
    (after .iny edge).y ≠ edge.y ∧ (after .brk edge).sp ≠ edge.sp ∧ (after .lsrAcc edge).a ≠ edge.a := by decide
theorem wit_FlagWriters : (after .iny edge).n ≠ edge.n ∧ (after .tax edge).z ≠ edge.z ∧ (after .clv edge).v ≠ edge.v ∧ (after .brk edge).b ≠ edge.b ∧ 
    (after .cld edge).d ≠ edge.d ∧
    (after .cli edge).i ≠ edge.i ∧ (after .clc edge).c ≠ edge.c := by decide
/-- A step of each kind: halted, halting, entering an interrupt, running; these are also `StepKeepsSettings`'s. -/
theorem wit_StepCosts :
    stepReturn { edge with halted := true } = (0, .alreadyHalted) ∧
    stepReturn (edge.withFetchWord 8 0x02) = (0, .halted) ∧
    stepReturn { edge with nmiPending := true } = (7, .interrupted .nmi) ∧
    stepReturn (edge.withFetchWord 16 0x80F0) = (4, .ran) ∧ stepReturn (edge.withFetchWord 24 0xFFFFFB) = (7, .ran) := by
  decide
theorem wit_BreakAndCyclesAreUnobserved : step edge = .refused (.unstableStore 0x9B) ∧
    step (edge.withFetchWord 8 0x08) = .next (stepped (edge.withFetchWord 8 0x08)) := ⟨rfl, rfl⟩
theorem wit_HostOperations : strictlyRising [0x00, 0xFF] ∧ edge2.params.interruptInputs = .driven ∧
    edge2.nmiPrev = false ∧ edge2.nmiPending = false ∧ edge2.nmiIn = edge2.nmiPrev ∧
    edge.params.interruptInputs = .tiedInactive := by decide
/-- R218: `read_range(a, n)` over the top of memory. -/
theorem test_readRange : edge.readRange 0xFFFE 3 = [0x9B, 0xFF, 0x80] := by decide

end Sys2Proof.Tests
end

section
/-! PROOFS. The registers A, X, Y and SP: which handler can change which (spec/10_state.md R13, R16). -/

namespace Sys2Proof.Machine

/-- The mnemonics whose handler writes A whatever their operand (R13). -/
def aWriters : List Mnemonic :=
  [.LDA, .PLA, .TXA, .TYA, .ADC, .SBC, .AND, .ORA, .EOR, .SLO, .RLA, .SRE, .RRA, .LAX, .ISC, .ANC, .ALR, .ARR, .USBC,
    .ANE, .LXA, .LAS]

/-- The mnemonics with a form on the accumulator; in that form they write A (R13). -/
def accumulatorShifts : List Mnemonic := [.ASL, .LSR, .ROL, .ROR]

/-- The mnemonics whose handler writes X (R13). -/
def xWriters : List Mnemonic := [.LDX, .TAX, .TSX, .INX, .DEX, .LAX, .SBX, .LXA, .LAS]

/-- The mnemonics whose handler writes Y (R13). -/
def yWriters : List Mnemonic := [.LDY, .TAY, .INY, .DEY]

/-- The mnemonics whose handler writes SP (R16). -/
def spWriters : List Mnemonic := [.TXS, .PHA, .PHP, .PLA, .PLP, .JSR, .RTS, .RTI, .BRK, .TAS, .LAS]

/-- Two states agree on A, X, Y and SP. -/
structure SameRegisters (s t : State) : Prop where
  a : t.a = s.a
  x : t.x = s.x
  y : t.y = s.y
  sp : t.sp = s.sp

/-- From `s` to `t` each register is kept unless the mnemonic `m`, on the source `src`, is among its writers (R13,
R16). -/
structure RegistersWritten (m : Mnemonic) (src : Src) (s t : State) : Prop where
  a : t.a = s.a ∨ m ∈ aWriters ∨ m ∈ accumulatorShifts ∧ src = .acc
  x : t.x = s.x ∨ m ∈ xWriters
  y : t.y = s.y ∨ m ∈ yWriters
  sp : t.sp = s.sp ∨ m ∈ spWriters

theorem SameRegisters.registersWritten {s t : State} (h : SameRegisters s t) (m : Mnemonic) (src : Src) :
    RegistersWritten m src s t :=
  ⟨.inl h.a, .inl h.x, .inl h.y, .inl h.sp⟩

/-! ## The operations that handlers share -/

theorem store_a_or_acc (s : State) (src : Src) (v : Byte) : (s.store src v).a = s.a ∨ src = .acc := by
  cases src with
  | acc => exact .inr rfl
  | _ => exact .inl rfl

theorem store_sameRegisters {src : Src} (h : src ≠ .acc) (s : State) (v : Byte) : SameRegisters s (s.store src v) :=
  ⟨(store_a_or_acc s src v).resolve_right h, s.store_x src v, s.store_y src v, s.store_sp src v⟩

theorem branch_sameRegisters {taken : Bool} {r : Resolved} {s t : State} {e : Nat} (h : branch taken r s = .ran t e) :
    SameRegisters s t := by
  cases taken <;> cases h <;> exact ⟨rfl, rfl, rfl, rfl⟩

theorem unstableStore_sameRegisters {index v : Byte} {r : Resolved} {s t : State} {e : Nat}
    (h : unstableStore index v r s = .ran t e) : SameRegisters s t := by
  unfold unstableStore at h
  split at h
  · cases h
  · cases h
    exact ⟨rfl, rfl, rfl, rfl⟩

/-! ## The source of an operand is the accumulator for shifts and rotates only -/

theorem operandSource_eq_acc_iff (i : Instr) (s : State) : operandSource i s = .acc ↔ i.operand = .accumulator := by
  unfold operandSource
  cases i.operand <;> simp [State.resolve]

theorem mnemonic_of_accumulator {i : Instr} (h : i.operand = .accumulator) : i.mnemonic ∈ accumulatorShifts := by
  cases i with
  | aslAcc => decide
  | lsrAcc => decide
  | rolAcc => decide
  | rorAcc => decide
  | _ => cases h

/-! ## The handlers, grouped by the registers that they write -/

theorem handlerOf_registersWritten {m : Mnemonic} {r : Resolved} {s t : State} {e : Nat}
    (hsrc : m ∉ accumulatorShifts → r.src ≠ .acc) (h : handlerOf m r s = .ran t e) :
    RegistersWritten m r.src s t := by
  cases m with
  | BPL | BMI | BVC | BVS | BCC | BCS | BNE | BEQ => exact (branch_sameRegisters h).registersWritten _ _
  | SHA | SHX | SHY => exact (unstableStore_sameRegisters h).registersWritten _ _
  | JAM => cases h
  | STA | STX | STY | SAX | INC | DEC | DCP =>
    cases h
    obtain ⟨ha, hx, hy, hsp⟩ := store_sameRegisters (hsrc (by decide)) s _
    exact ⟨.inl ha, .inl hx, .inl hy, .inl hsp⟩
  | ASL | LSR | ROL | ROR =>
    cases h
    exact ⟨(store_a_or_acc _ r.src _).imp_right fun hacc => .inr ⟨by decide, hacc⟩,
      .inl (State.store_x ..), .inl (State.store_y ..), .inl (State.store_sp ..)⟩
  | SLO | RLA | SRE | RRA | ISC =>
    cases h
    exact ⟨.inr (.inl (by decide)), .inl (State.store_x ..), .inl (State.store_y ..), .inl (State.store_sp ..)⟩
  | LDA | TXA | TYA | ADC | SBC | AND | ORA | EOR | ANC | ALR | USBC | ANE =>
    cases h
    exact ⟨.inr (.inl (by decide)), .inl rfl, .inl rfl, .inl rfl⟩
  | ARR =>
    simp only [handlerOf, handleArr] at h
    split at h
    · cases h
    · cases h
      exact ⟨.inr (.inl (by decide)), .inl rfl, .inl rfl, .inl rfl⟩
  | LDX | TAX | TSX | INX | DEX | SBX =>
    cases h
    exact ⟨.inl rfl, .inr (by decide), .inl rfl, .inl rfl⟩
  | LDY | TAY | INY | DEY =>
    cases h
    exact ⟨.inl rfl, .inl rfl, .inr (by decide), .inl rfl⟩
  | TXS | PHA | PHP | PLP | JSR | RTS | RTI | BRK =>
    cases h
    exact ⟨.inl rfl, .inl rfl, .inl rfl, .inr (by decide)⟩
  | TAS =>
    obtain ⟨ha, hx, hy, -⟩ := unstableStore_sameRegisters h
    exact ⟨.inl ha, .inl hx, .inl hy, .inr (by decide)⟩
  | LAX | LXA =>
    cases h
    exact ⟨.inr (.inl (by decide)), .inr (by decide), .inl rfl, .inl rfl⟩
  | PLA =>
    cases h
    exact ⟨.inr (.inl (by decide)), .inl rfl, .inl rfl, .inr (by decide)⟩
  | LAS =>
    cases h
    exact ⟨.inr (.inl (by decide)), .inr (by decide), .inl rfl, .inr (by decide)⟩
  | CMP | CPX | CPY | BIT | JMP | CLC | SEC | CLI | SEI | CLD | SED | CLV | NOP =>
    cases h
    exact ⟨.inl rfl, .inl rfl, .inl rfl, .inl rfl⟩

/-! ## The instructions -/

/-- A next state of `exec` is the halted state (R88, R172) or the completed state that the handler left (R90, R91). -/
theorem exec_next_cases {i : Instr} {s t : State} (hwf : i.wf = true) (h : exec i s = .next t) :
    t = s.halt ∨ ∃ u e,
      handlerOf i.mnemonic ⟨s.pc, i.opcode, operandSource i s, pageCrossed i s⟩ (s.advance i) = .ran u e ∧
      t = u.complete i.desc s.i (pageCrossed i s) e := by
  rw [exec_eq i hwf] at h
  rcases runInstr_cases i (handlerOf i.mnemonic) s with ⟨-, hx⟩ | ⟨-, -, -, hx⟩ | ⟨-, -, ⟨q, -, hx⟩ | ⟨u, e, hr, hx⟩⟩
  · exact .inl (Host.Outcome.next.inj (h.symm.trans hx))
  · cases h.symm.trans hx
  · cases h.symm.trans hx
  · exact .inr ⟨u, e, hr, Host.Outcome.next.inj (h.symm.trans hx)⟩

theorem exec_registersWritten {i : Instr} {s t : State} (hwf : i.wf = true) (h : exec i s = .next t) :
    RegistersWritten i.mnemonic (operandSource i s) s t := by
  rcases exec_next_cases hwf h with rfl | ⟨u, e, hran, rfl⟩
  · exact ⟨.inl rfl, .inl rfl, .inl rfl, .inl rfl⟩
  · have hsrc : i.mnemonic ∉ accumulatorShifts → operandSource i s ≠ .acc := fun hm hacc =>
      hm (mnemonic_of_accumulator ((operandSource_eq_acc_iff i s).mp hacc))
    obtain ⟨ha, hx, hy, hsp⟩ := handlerOf_registersWritten hsrc hran
    exact ⟨ha, hx, hy, hsp⟩

/-- Settles O55: halting changes no register, and otherwise each handler writes only those that its group names. -/
theorem registerWriters : Obligations.RegisterWriters := by
  intro i s t hwf hex
  obtain ⟨ha, hx, hy, hsp⟩ := exec_registersWritten hwf hex
  rw [operandSource_eq_acc_iff] at ha
  exact ⟨ha.resolve_left, hx.resolve_left, hy.resolve_left, hsp.resolve_left⟩

end Sys2Proof.Machine
end

section
/-! PROOFS. Whatever bytes are fetched, the decoder builds a well-formed instruction of them (spec/30_encoding.md R58,
R59, R60). -/

namespace Sys2Proof

/-- Whatever operand bytes it is given, this way of building an instruction gives a well-formed one. -/
def Former.wf : Former → Prop
  | .op i => i.wf = true
  | .byte f => ∀ b, (f b).wf = true
  | .word f => ∀ w, (f w).wf = true

theorem formers_wf : ∀ row ∈ formers, ∀ f ∈ row, f.wf := by
  simp only [formers, formerRow0, formerRow1, formerRow2, formerRow3, formerRow4, formerRow5, formerRow6, formerRow7,
    formerRow8, formerRow9, formerRowA, formerRowB, formerRowC, formerRowD, formerRowE, formerRowF,
    List.forall_mem_cons]
  simp [Former.wf, Instr.wf]

/-- The decoder's table has an entry for every opcode byte, so `former` never takes its default. -/
theorem former_mem (op : Byte) : ∃ row ∈ formers, former op ∈ row := by
  have hrow : op.toNat / 16 < formers.length := by
    have := op.isLt
    have : formers.length = 16 := rfl
    omega
  have hlen : formers[op.toNat / 16].length = 16 := by
    have h : formers[op.toNat / 16].length ∈ formers.map List.length := List.mem_map_of_mem (List.getElem_mem hrow)
    rw [Laws.formers_full] at h
    exact List.eq_of_mem_replicate h
  have hcol : op.toNat % 16 < formers[op.toNat / 16].length := by
    rw [hlen]
    exact Nat.mod_lt _ (by decide)
  refine ⟨formers[op.toNat / 16], List.getElem_mem hrow, ?_⟩
  simp only [former, List.getD_eq_getElem _ _ hrow, List.getD_eq_getElem _ _ hcol, List.getElem_mem]

theorem former_wf (op : Byte) : (former op).wf := by
  obtain ⟨row, hrow, hop⟩ := former_mem op
  exact formers_wf row hrow _ hop

theorem instrOfBytes_wf (op b1 b2 : Byte) : (instrOfBytes op b1 b2).wf = true := by
  have h := former_wf op
  unfold instrOfBytes
  split <;> rename_i hf <;> rw [hf] at h
  · exact h
  · exact h b1
  · exact h (joinBytes b2 b1)

theorem Machine.State.fetch_wf (s : State) : s.fetch.wf = true := instrOfBytes_wf _ _ _

end Sys2Proof
end

section
/-! PROOFS. Memory: a canonical list is determined by its reads, the stack stays in its page, and no step leaves the
canonical form (spec/20_memory.md). -/

namespace Sys2Proof.Machine

/-! ## Canonical memories are equal when they read alike -/

/-- The first entry of a canonical memory shows in a read, against a memory that lists higher addresses only. -/
theorem Memory.read_head_ne {k : Nat} {b : Byte} {m m' : Memory} (h : Memory.wf ((k, b) :: m))
    (hlt : ∀ c ∈ m', k < c.1) : Memory.read ((k, b) :: m) k ≠ m'.read k := by
  rw [Memory.read_cons, if_pos rfl, Memory.read_of_lt hlt]
  exact (h.2 (k, b) List.mem_cons_self).2

theorem Memory.eq_of_read_eq {m m' : Memory} (h : m.wf) (h' : m'.wf)
    (hread : ∀ a < 65536, m.read a = m'.read a) : m = m' := by
  induction m generalizing m' with
  | nil =>
    cases m' with
    | nil => rfl
    | cons c' m' =>
      exact absurd (hread c'.1 (h'.2 c' List.mem_cons_self).1).symm (Memory.read_head_ne h' (by simp))
  | cons c m ih =>
    have hc : c.1 < 65536 := (h.2 c List.mem_cons_self).1
    obtain ⟨ht, hlt⟩ := Memory.wf_tail h
    cases m' with
    | nil => exact absurd (hread c.1 hc) (Memory.read_head_ne h (by simp))
    | cons c' m' =>
      have hc' : c'.1 < 65536 := (h'.2 c' List.mem_cons_self).1
      obtain ⟨ht', hlt'⟩ := Memory.wf_tail h'
      obtain ⟨k, b⟩ := c
      obtain ⟨k', b'⟩ := c'
      rcases Nat.lt_trichotomy k k' with hk | rfl | hk
      · refine absurd (hread k hc) (Memory.read_head_ne h ?_)
        exact List.forall_mem_cons.2 ⟨hk, fun e he => Nat.lt_trans hk (hlt' e he)⟩
      · have hb : b = b' := by simpa [Memory.read_cons] using hread k hc
        have hm : m = m' := ih ht ht' fun a ha => by
          by_cases hak : k = a
          · rw [← hak, Memory.read_of_lt hlt, Memory.read_of_lt hlt']
          · simpa [Memory.read_cons, hak] using hread a ha
        rw [hb, hm]
      · refine absurd (hread k' hc').symm (Memory.read_head_ne h' ?_)
        exact List.forall_mem_cons.2 ⟨hk, fun e he => Nat.lt_trans hk (hlt e he)⟩

/-- Settles O14: by induction on the two lists; a first entry that only one of them has would show in a read. -/
theorem canonicalMemoriesAgree : Obligations.CanonicalMemoriesAgree := fun _ _ h h' hread =>
  Memory.eq_of_read_eq h h' fun a ha => by simpa [Nat.mod_eq_of_lt ha] using hread (BitVec.ofNat 16 a)

/-! ## Reads after a write and after a push -/

theorem State.read_write {s : State} (h : s.mem.wf) (addr : Word) (v : Byte) (b : Word) :
    (s.write addr v).read b = if b = addr then v else s.read b := by
  simp only [State.read, State.write_mem, Memory.read_write h, BitVec.toNat_inj]

theorem State.read_push {s : State} (h : s.mem.wf) (v : Byte) (b : Word) :
    (s.push v).read b = if b = s.pushAddress then v else s.read b :=
  State.read_write h s.pushAddress v b

/-- Settles O13: the read by the model's law of a write, the other fields by the definition of a write. -/
theorem memoryReadsAndWrites : Obligations.MemoryReadsAndWrites := fun _ addr v h =>
  ⟨State.read_write h addr v, rfl⟩

/-! ## The stack's page -/

theorem toNat_stackAddress (sp : Byte) : (stackAddress sp).toNat = 0x0100 + sp.toNat :=
  Laws.toNat_joinBytes 0x01 sp

/-- An address outside the stack's page is the stack address of no value of SP (R41, R44). -/
theorem ne_stackAddress {a : Word} (h : a.toNat < 0x0100 ∨ 0x01FF < a.toNat) (sp : Byte) : a ≠ stackAddress sp := by
  rintro rfl
  have := toNat_stackAddress sp
  omega

theorem State.pushAddress_doc {s : State} (h : s.params.stackConvention = .doc) :
    s.pushAddress = stackAddress (s.sp - 1) := by
  simp only [State.pushAddress, h]

theorem State.pushAddress_nmos {s : State} (h : s.params.stackConvention = .nmos) :
    s.pushAddress = stackAddress s.sp := by
  simp only [State.pushAddress, h]

theorem State.pullAddress_doc {s : State} (h : s.params.stackConvention = .doc) :
    s.pullAddress = stackAddress s.sp := by
  simp only [State.pullAddress, h]

theorem State.pullAddress_nmos {s : State} (h : s.params.stackConvention = .nmos) :
    s.pullAddress = stackAddress (s.sp + 1) := by
  simp only [State.pullAddress, h]

theorem State.pushAddress_in_stack (s : State) : ∃ sp, s.pushAddress = stackAddress sp := by
  cases hc : s.params.stackConvention with
  | doc => exact ⟨_, State.pushAddress_doc hc⟩
  | nmos => exact ⟨_, State.pushAddress_nmos hc⟩

theorem State.pullAddress_in_stack (s : State) : ∃ sp, s.pullAddress = stackAddress sp := by
  cases hc : s.params.stackConvention with
  | doc => exact ⟨_, State.pullAddress_doc hc⟩
  | nmos => exact ⟨_, State.pullAddress_nmos hc⟩

theorem State.read_pushAddress_push {s : State} (h : s.mem.wf) (v : Byte) :
    (s.push v).read s.pushAddress = v := by
  rw [State.read_push h, if_pos rfl]

/-- Settles O17: pushes and pulls use stack addresses only, and SP counts mod 256 because it is a byte. -/
theorem stackStaysInItsPage : Obligations.StackStaysInItsPage := by
  intro s v h
  refine ⟨fun a ha => ?_, ?_, ?_, fun hc hsp => ?_, fun hc hsp => ?_, fun hc hsp => ?_⟩
  · obtain ⟨p, hp⟩ := s.pushAddress_in_stack
    obtain ⟨q, hq⟩ := s.pullAddress_in_stack
    rw [State.read_push h, hp, hq, if_neg (ne_stackAddress ha p)]
    exact ⟨rfl, ne_stackAddress ha q⟩
  · rw [State.push_sp]
    bv_omega
  · rw [State.afterPull_sp]
    bv_omega
  · have hp : s.pushAddress = 0x01FF := by rw [State.pushAddress_doc hc, hsp]; rfl
    exact ⟨by rw [State.push_sp, hsp]; rfl, hp ▸ State.read_pushAddress_push h v⟩
  · have hp : s.pullAddress = 0x01FF := by rw [State.pullAddress_doc hc, hsp]; rfl
    exact ⟨by rw [State.pulled, hp], by rw [State.afterPull_sp, hsp]; rfl⟩
  · have hp : s.pushAddress = 0x0100 := by rw [State.pushAddress_nmos hc, hsp]; rfl
    exact ⟨by rw [State.push_sp, hsp]; rfl, hp ▸ State.read_pushAddress_push h v⟩

/-! ## What an instruction does to memory -/

/-- The memory that a handler of the mnemonic `m` on the source `src` can leave, from the state `s` in which it began:
the same, one with its operand stored, or one with what it pushed. -/
inductive MemoryAfter (m : Mnemonic) (src : Src) (s : State) : Memory → Prop
  /-- nothing is written -/
  | kept : MemoryAfter m src s s.mem
  /-- a byte at the operand's address (R84, R189 to R192) -/
  | stored (v : Byte) (h : m ∈ storesOperand) : MemoryAfter m src s (s.write src.address v).mem
  /-- a byte on the stack (R125, R126) -/
  | pushed (v : Byte) (h : m = .PHA ∨ m = .PHP) : MemoryAfter m src s (s.push v).mem
  /-- JSR's return address on the stack (R158) -/
  | called (w : Word) (h : m = .JSR) : MemoryAfter m src s (s.pushWord w).mem
  /-- BRK's return address and status on the stack (R161) -/
  | entered (w : Word) (h : m = .BRK) : MemoryAfter m src s (s.enterHandler w true irqVector).mem

theorem MemoryAfter.wf {m : Mnemonic} {src : Src} {s : State} {mem : Memory} (h : MemoryAfter m src s mem)
    (hs : s.mem.wf) : mem.wf := by
  cases h with
  | kept => exact hs
  | stored v => exact State.wf_write hs src.address v
  | pushed v => exact State.wf_push hs v
  | called w => exact State.wf_push (State.wf_push hs _) _
  | entered w => exact State.wf_enterHandler hs w true irqVector

/-- `Store(v)` (R84), from a state `u` in which the handler has written no memory yet. -/
theorem store_memoryAfter {m : Mnemonic} {s u : State} (hm : m ∈ storesOperand) (hu : u.mem = s.mem) (src : Src)
    (v : Byte) : MemoryAfter m src s (u.store src v).mem := by
  have hkept : MemoryAfter m src s u.mem := hu ▸ .kept
  cases src with
  | addr ea =>
    have hw : (u.write ea v).mem = (s.write ea v).mem := by rw [State.write_mem, hu, State.write_mem]
    exact hw ▸ .stored v hm
  | imm _ | target _ | acc | none => exact hkept

theorem storeShift_memoryAfter {m : Mnemonic} (hm : m ∈ storesOperand) (s : State) (src : Src) (q : ShiftResult) :
    MemoryAfter m src s (s.storeShift src q).mem :=
  store_memoryAfter (s := s) (u := { s with c := q.out }) hm rfl src q.value

theorem unstableStore_memoryAfter {m : Mnemonic} {index v : Byte} {r : Resolved} {s u t : State} {e : Nat}
    (hm : m ∈ storesOperand) (hu : u.mem = s.mem) (h : unstableStore index v r u = .ran t e) :
    MemoryAfter m r.src s t.mem := by
  unfold unstableStore at h
  split at h
  · cases h
  · cases h
    rw [State.write_mem, hu]
    exact .stored _ hm

theorem branch_mem {taken : Bool} {r : Resolved} {s t : State} {e : Nat} (h : branch taken r s = .ran t e) :
    t.mem = s.mem := by
  cases taken <;> cases h <;> rfl

theorem handleBrk_mem {r : Resolved} {s t : State} {e : Nat} (h : handleBrk r s = .ran t e) :
    t.mem = (s.enterHandler (s.pc + 1) true irqVector).mem := by
  cases h
  rfl

theorem handlerOf_memoryAfter {m : Mnemonic} {r : Resolved} {s t : State} {e : Nat}
    (h : handlerOf m r s = .ran t e) : MemoryAfter m r.src s t.mem := by
  cases m with
  | BPL | BMI | BVC | BVS | BCC | BCS | BNE | BEQ => exact branch_mem h ▸ .kept
  | SHA | SHX | SHY => exact unstableStore_memoryAfter (by decide) rfl h
  | TAS => exact unstableStore_memoryAfter (s := s) (u := { s with sp := s.a &&& s.x }) (by decide) rfl h
  | JAM => cases h
  | STA | STX | STY | SAX | INC | DEC | DCP | SLO | RLA | SRE | RRA | ISC =>
    cases h
    exact store_memoryAfter (by decide) rfl r.src _
  | ASL | LSR | ROL | ROR =>
    cases h
    exact storeShift_memoryAfter (by decide) s r.src _
  | PHA | PHP =>
    cases h
    exact .pushed _ (by decide)
  | JSR =>
    cases h
    exact .called (s.pc - 1) rfl
  | BRK =>
    rw [handleBrk_mem (r := r) h]
    exact .entered (s.pc + 1) rfl
  | ARR =>
    simp only [handlerOf, handleArr] at h
    split at h
    · cases h
    · cases h
      exact .kept
  | LDA | LDX | LDY | LAX | LAS | TAX | TAY | TXA | TYA | TSX | TXS | PLA | PLP | ADC | SBC | AND | ORA | EOR | CMP
  | CPX | CPY | BIT | INX | INY | DEX | DEY | JMP | RTS | RTI | CLC | SEC | CLI | SEI | CLD | SED | CLV | NOP | ANC | ALR
  | SBX | USBC | ANE | LXA =>
    cases h
    exact .kept

/-! ## Every step -/

theorem exec_keeps_mem_wf {i : Instr} {s t : State} (hwf : i.wf = true) (hs : s.mem.wf) (h : exec i s = .next t) :
    t.mem.wf := by
  rcases exec_next_cases hwf h with rfl | ⟨u, e, hran, rfl⟩
  · exact hs
  · exact (handlerOf_memoryAfter hran).wf hs

/-- Settles O15: a halted state is kept, an interrupt entry only pushes, and an instruction keeps the canonical form. -/
theorem stepKeepsMemoryCanonical : Obligations.StepKeepsMemoryCanonical := by
  intro s t hs hstep
  rcases step_cases s with ⟨-, hx⟩ | ⟨-, k, -, hx⟩ | ⟨-, hx⟩
  · cases hx.symm.trans hstep
    exact hs
  · cases hx.symm.trans hstep
    exact State.wf_enterHandler (s := s.pollInputs) hs s.pc false k.vector
  · exact exec_keeps_mem_wf (s := s.pollInputs) (State.fetch_wf _) hs (hx ▸ hstep)

end Sys2Proof.Machine
end

section
/-! PROOFS. The encoder and the decoder undo each other (spec/30_encoding.md R53 to R55, R58, R64). Both directions go
through the decoder's table of formers: what a former builds encodes to the opcode byte and the operand bytes it was
built from, and a well-formed instruction is what the former at its opcode byte builds from
its operand. -/

namespace Sys2Proof

/-! ## What a former builds, and from which bytes -/

/-- The instruction that the former builds when its operand is the byte `b` or the word `w`. -/
def Former.build : Former → Byte → Word → Instr
  | .op i, _, _ => i
  | .byte f, b, _ => f b
  | .word f, _, w => f w

/-- The bytes from which the former reads that operand, a word low byte first (R40, R54). -/
def Former.operandBytes : Former → Byte → Word → List Byte
  | .op _, _, _ => []
  | .byte _, b, _ => [b]
  | .word _, _, w => [lowByte w, highByte w]

theorem Former.build_wf {f : Former} (h : f.wf) (b : Byte) (w : Word) : (f.build b w).wf = true := by
  cases f with
  | op i => exact h
  | byte f => exact h b
  | word f => exact h w

/-! ## The decoder runs the former at the opcode byte -/

theorem decode_operandBytes (op b : Byte) (w : Word) (rest : List Byte) :
    decode (op :: ((former op).operandBytes b w ++ rest)) = .instr ((former op).build b w) rest := by
  cases hf : former op with
  | op i => simp [decode, hf, Former.operandBytes, Former.build]
  | byte f => simp [decode, hf, Former.operandBytes, Former.build]
  | word f => simp [decode, hf, Former.operandBytes, Former.build]

theorem exists_operandBytes_of_decode {bytes : List Byte} {i : Instr} {rest : List Byte}
    (h : decode bytes = .instr i rest) :
    ∃ op b w, i = (former op).build b w ∧ bytes = op :: ((former op).operandBytes b w ++ rest) := by
  unfold decode at h
  split at h
  · cases h
  next op tail =>
    refine ⟨op, ?_⟩
    split at h
    next hf =>
      cases h
      exact ⟨0, 0, by simp [hf, Former.build, Former.operandBytes]⟩
    next b _ hf =>
      cases h
      exact ⟨b, 0, by simp [hf, Former.build, Former.operandBytes]⟩
    next lo hi _ hf =>
      cases h
      exact ⟨0, joinBytes hi lo, by simp [hf, Former.build, Former.operandBytes]⟩
    · cases h

/-! ## The table of formers against the encoder -/

/-- Entry by entry, the instructions built from the table of formers have the Instruction Table's opcodes (R58). -/
theorem formers_opcodes (b : Byte) (w : Word) :
    formers.map (List.map fun f => (f.build b w).opcode) = instructionTable.map (List.map Descriptor.opcode) := rfl

/-- Entry by entry, the operand bytes of those instructions are the bytes that the former reads (R54, R55). -/
theorem formers_operands (b : Byte) (w : Word) :
    formers.map (List.map fun f => (f.build b w).operand.bytes) = formers.map (List.map fun f => f.operandBytes b w) :=
  rfl

theorem getD_getD_map {α β : Type} (g : α → β) (table : List (List α)) (row col : Nat) (d : α) :
    ((table.map (List.map g)).getD row []).getD col (g d) = g ((table.getD row []).getD col d) := by
  rw [← List.map_nil (f := g), List.getD_map, List.getD_map]

theorem descriptor_opcode : ∀ op : Byte, (descriptor op).opcode = op := by decide

theorem former_build_opcode (op b : Byte) (w : Word) : ((former op).build b w).opcode = op :=
  calc
    ((former op).build b w).opcode
    _ = ((formers.map (List.map fun f => (f.build b w).opcode)).getD (op.toNat / 16) []).getD (op.toNat % 16) op :=
      (getD_getD_map (fun f => (f.build b w).opcode) formers _ _ (.op (.jam op))).symm
    _ = ((instructionTable.map (List.map Descriptor.opcode)).getD (op.toNat / 16) []).getD (op.toNat % 16) op := by
      rw [formers_opcodes]
    _ = (descriptor op).opcode :=
      getD_getD_map Descriptor.opcode instructionTable _ _ ⟨op, .JAM, .implied, 0, false, false⟩
    _ = op := descriptor_opcode op

theorem former_build_operand (op b : Byte) (w : Word) :
    ((former op).build b w).operand.bytes = (former op).operandBytes b w := by
  obtain ⟨row, hrow, hop⟩ := former_mem op
  exact List.map_inj_left.mp (List.map_inj_left.mp (formers_operands b w) row hrow) _ hop

theorem encode_former_build (op b : Byte) (w : Word) :
    encode ((former op).build b w) = op :: (former op).operandBytes b w := by
  rw [encode, former_build_opcode, former_build_operand]

/-- Settles O3: what decodes is built by the former at its first byte, and encodes to the bytes it was built from. -/
theorem encodeOfDecode : Obligations.EncodeOfDecode := by
  intro bytes i rest h
  obtain ⟨op, b, w, rfl, rfl⟩ := exists_operandBytes_of_decode h
  exact ⟨Former.build_wf (former_wf op) b w, by rw [encode_former_build, List.cons_append]⟩

/-! ## A well-formed instruction is built from its own operand -/

/-- The byte of an operand of one byte. -/
def Operand.byte : Operand → Byte
  | .immediate b | .zeroPage b | .zeroPageX b | .zeroPageY b | .indirectX b | .indirectY b | .relative b => b
  | _ => 0

/-- The word of an operand of two bytes. -/
def Operand.word : Operand → Word
  | .absolute w | .absoluteX w | .absoluteY w | .indirect w => w
  | _ => 0

/-- By the constructors: one that stands for several rows has a former for each of its opcode bytes (R58), and any
other has one former. The opcode is put in first, because the former is found by arithmetic on it. -/
theorem former_build_operand_eq {i : Instr} (h : i.wf = true) :
    (former i.opcode).build i.operand.byte i.operand.word = i := by
  cases i with
  | jam op | nop op | nopZp op _ | anc op _ | nopZpX op _ | nopImm op _ | nopAbsX op _ =>
    have hop := List.contains_iff_mem.mp h
    fin_cases hop
    all_goals
      dsimp only [Instr.opcode]
      rfl
  | _ =>
    dsimp only [Instr.opcode]
    rfl

/-- Settles O2: the instruction is built from its operand, and its encoding is the bytes it is built from. -/
theorem decodeOfEncode : Obligations.DecodeOfEncode := by
  intro i rest hwf
  have hbuild := former_build_operand_eq hwf
  have henc := encode_former_build i.opcode i.operand.byte i.operand.word
  rw [hbuild] at henc
  rw [henc, List.cons_append, decode_operandBytes, hbuild]

end Sys2Proof
end

section
/-! PROOFS. The operand that the resolver delivers fits the instruction's rule (spec/40_addressing.md R84, R86). A
well-formed instruction's operand is in its table entry's mode, the table gives each mnemonic only some of the modes, and
the mode alone says what kind of source the resolver delivers. -/

namespace Sys2Proof

/-! ## An instruction's operand is in the mode of its table entry -/

/-- Entry by entry, the instructions built from the table of formers have operands in the Instruction Table's modes
(R58, R61). -/
theorem formers_modes (b : Byte) (w : Word) :
    formers.map (List.map fun f => (f.build b w).operand.mode) = instructionTable.map (List.map Descriptor.mode) := rfl

theorem former_build_mode (op b : Byte) (w : Word) : ((former op).build b w).operand.mode = (descriptor op).mode :=
  calc
    ((former op).build b w).operand.mode
    _ = ((formers.map (List.map fun f => (f.build b w).operand.mode)).getD (op.toNat / 16) []).getD (op.toNat % 16)
        .implied :=
      (getD_getD_map (fun f => (f.build b w).operand.mode) formers _ _ (.op (.jam op))).symm
    _ = ((instructionTable.map (List.map Descriptor.mode)).getD (op.toNat / 16) []).getD (op.toNat % 16) .implied := by
      rw [formers_modes]
    _ = (descriptor op).mode :=
      getD_getD_map Descriptor.mode instructionTable _ _ ⟨op, .JAM, .implied, 0, false, false⟩

theorem operand_mode_eq_desc_mode {i : Instr} (h : i.wf = true) : i.operand.mode = i.desc.mode := by
  have hmode := former_build_mode i.opcode i.operand.byte i.operand.word
  rwa [former_build_operand_eq h] at hmode

namespace Machine

/-! ## The modes that the table gives to a mnemonic -/

/-- The modes whose operand is a byte of memory, or an address to jump to (R74 to R81). -/
def addressModes : List Mode :=
  [.zeroPage, .zeroPageX, .zeroPageY, .absolute, .absoluteX, .absoluteY, .indirect, .indirectX, .indirectY]

/-- R84's "the table gives each mnemonic only modes its rule accepts", for one table entry. -/
structure ModeFits (m : Mnemonic) (mode : Mode) : Prop where
  reads : m ∈ readsOperand → mode = .immediate ∨ mode = .accumulator ∨ mode ∈ addressModes
  stores : m ∈ storesOperand → mode = .accumulator ∨ mode ∈ addressModes
  jumps : m ∈ jumpsToOperand → mode ∈ addressModes
  targets : m ∈ branches → mode = .relative

theorem descriptor_modeFits (op : Byte) : ModeFits (descriptor op).mnemonic (descriptor op).mode where
  reads := by revert op; decide
  stores := by revert op; decide
  jumps := by revert op; decide
  targets := by revert op; decide

theorem operand_modeFits {i : Instr} (h : i.wf = true) : ModeFits i.mnemonic i.operand.mode := by
  rw [operand_mode_eq_desc_mode h]
  exact descriptor_modeFits i.opcode

/-! ## The kind of source that each mode resolves to -/

theorem resolve_imm_of_mode {o : Operand} (h : o.mode = .immediate) (s : State) : ∃ b, s.resolve o = .imm b := by
  cases o with
  | immediate b => exact ⟨b, rfl⟩
  | _ => cases h

theorem resolve_acc_of_mode {o : Operand} (h : o.mode = .accumulator) (s : State) : s.resolve o = .acc := by
  cases o with
  | accumulator => rfl
  | _ => cases h

theorem resolve_target_of_mode {o : Operand} (h : o.mode = .relative) (s : State) : ∃ t, s.resolve o = .target t := by
  cases o with
  | relative b => exact ⟨s.pc + sext16 b, rfl⟩
  | _ => cases h

theorem resolve_addr_of_mode {o : Operand} (h : o.mode ∈ addressModes) (s : State) : ∃ ea, s.resolve o = .addr ea := by
  cases o with
  | implied | accumulator | immediate | relative => exact absurd h (by simp [addressModes, Operand.mode])
  | _ => exact ⟨_, rfl⟩

/-- Settles O12: the instruction's mode is one that its mnemonic accepts, and that mode's source is of the kind. -/
theorem operandsFitTheirInstruction : Obligations.OperandsFitTheirInstruction := by
  intro i s hwf
  obtain ⟨hreads, hstores, hjumps, htargets⟩ := operand_modeFits hwf
  refine ⟨fun hm => ?_, fun hm => ?_, fun hm => resolve_addr_of_mode (hjumps hm) _,
    fun hm => resolve_target_of_mode (htargets hm) _⟩
  · exact (hreads hm).imp (resolve_imm_of_mode · _) (.imp (resolve_acc_of_mode · _) (resolve_addr_of_mode · _))
  · exact (hstores hm).imp (resolve_acc_of_mode · _) (resolve_addr_of_mode · _)

end Machine
end Sys2Proof
end

section
/-! PROOFS. The Instruction Table is complete and the decoder agrees with it (spec/30_encoding.md R58 to R61, R111); a
step that takes no interrupt runs what the decoder reads at PC (spec/41_dispatch.md R87, R88). -/

namespace Sys2Proof

/-! ## The table has an entry for every byte -/

theorem exists_row_getD_getD_mem {α : Type} {table : List (List α)} {row col : Nat} (hrow : row < table.length)
    (hcol : ∀ l ∈ table, col < l.length) (d : α) : ∃ l ∈ table, (table.getD row []).getD col d ∈ l := by
  have hl := List.getElem_mem hrow
  refine ⟨table[row], hl, ?_⟩
  rw [List.getD_eq_getElem _ _ hrow, List.getD_eq_getElem _ _ (hcol _ hl)]
  exact List.getElem_mem _

theorem descriptor_mem (op : Byte) : ∃ row ∈ instructionTable, descriptor op ∈ row := by
  obtain ⟨hlen, hrows⟩ := Laws.instructionTable_full
  refine exists_row_getD_getD_mem ?_ (fun row hrow => ?_) _
  · have := op.isLt
    omega
  · rw [hrows row hrow]
    exact Nat.mod_lt _ (by decide)

/-- Row by row, column by column, the entry's opcode is the entry's place (R58, R61). -/
theorem instructionTable_opcodes : instructionTable.map (List.map Descriptor.opcode) =
    (List.range 16).map fun row => (List.range 16).map fun col => BitVec.ofNat 8 (16 * row + col) := rfl

theorem flatten_map_range_eq_range (m n : Nat) :
    ((List.range m).map fun row => (List.range n).map (n * row + ·)).flatten = List.range (n * m) := by
  induction m with
  | zero => rfl
  | succ m ih =>
    rw [List.range_succ, List.map_append, List.flatten_append, ih, Nat.mul_succ, List.range_add]
    simp

theorem opcodes_in_order : instructionTable.flatten.map Descriptor.opcode = (List.range 256).map (BitVec.ofNat 8) := by
  rw [List.map_flatten, instructionTable_opcodes, ← flatten_map_range_eq_range 16 16, List.map_flatten]
  simp only [List.map_map, Function.comp_def]

/-! ## The three bytes at PC -/

theorem instrOfBytes_eq_build (op b1 b2 : Byte) :
    instrOfBytes op b1 b2 = (former op).build b1 (joinBytes b2 b1) := by
  unfold instrOfBytes
  cases former op <;> rfl

/-- Three bytes are enough for every instruction (R53, R54), so the decoder on a byte string and the one on three bytes
read the same instruction. -/
theorem exists_decode_eq_instrOfBytes (op b1 b2 : Byte) :
    ∃ rest, decode [op, b1, b2] = .instr (instrOfBytes op b1 b2) rest := by
  unfold instrOfBytes
  cases hf : former op with
  | op i => exact ⟨[b1, b2], by simp only [decode, hf]⟩
  | byte f => exact ⟨[b2], by simp only [decode, hf]⟩
  | word f => exact ⟨[], by simp only [decode, hf]⟩

/-- Settles O1: by the lookup in the two tables, which agree entry by entry on opcode and mode. -/
theorem everyByteDecodes : Obligations.EveryByteDecodes := by
  refine ⟨opcodes_in_order, fun op b1 b2 => ⟨descriptor_mem op, descriptor_opcode op, ?_⟩⟩
  rw [instrOfBytes_eq_build]
  exact ⟨former_build_opcode op _ _, Former.build_wf (former_wf op) _ _, former_build_mode op _ _⟩

namespace Machine

theorem State.readBytes_three (s : State) (addr : Word) :
    s.readBytes addr 3 = [s.read addr, s.read (addr + 1), s.read (addr + 2)] := by
  simp only [State.readBytes, BitVec.add_assoc]
  rfl

theorem State.fetch_eq_of_decode {s : State} {i : Instr} {rest : List Byte}
    (h : decode (s.readBytes s.pc 3) = .instr i rest) : s.fetch = i := by
  rw [State.readBytes_three] at h
  obtain ⟨tail, htail⟩ := exists_decode_eq_instrOfBytes (s.read s.pc) (s.read (s.pc + 1)) (s.read (s.pc + 2))
  cases htail.symm.trans h
  rfl

/-- The interrupt check writes no memory and not PC (R197). -/
@[simp] theorem State.fetch_pollInputs (s : State) : s.pollInputs.fetch = s.fetch := rfl

theorem step_of_runsInstruction {s : State} (h : RunsInstruction s) : step s = exec s.fetch s.pollInputs := by
  obtain ⟨hhalted, hpending⟩ := h
  rcases step_cases s with ⟨hh, -⟩ | ⟨-, k, hk, -⟩ | ⟨-, hx⟩
  · exact absurd hh (by simp [hhalted])
  · cases hk.symm.trans hpending
  · exact hx

/-- Settles O6: the step runs the fetched instruction, and that is what the decoder reads from the three bytes at PC. -/
theorem stepRunsDecodedInstruction : Obligations.StepRunsDecodedInstruction := fun s i rest hruns hdecode => by
  rw [step_of_runsInstruction hruns, State.fetch_eq_of_decode hdecode]

end Machine
end Sys2Proof
end

section
/-! PROOFS. Compares, shifts and rotates (spec/41_dispatch.md R98, R104; spec/44_arithmetic_logic.md R134 to R136;
spec/45_shift_rotate.md R144 to R147): what the shared operation of each group leaves, and that the instruction completes
as every one does. -/

namespace Sys2Proof.Machine

/-! ## Completion without an effect on I or on the cost -/

/-- `exec_completes` for a handler that keeps I and the counter, adds no cycles and does not delay polling (R91). -/
theorem exec_completes_plain {i : Instr} {s t : State} {m : Mnemonic} (h : Executes i s) (hm : i.mnemonic = m)
    (hd : delaysIPoll m = false)
    (hr : handlerOf m ⟨s.pc, i.opcode, operandSource i s, pageCrossed i s⟩ (s.advance i) = .ran t 0)
    (hi : t.i = s.i) (hc : t.cycles = s.cycles) :
    exec i s = .next { t with iPoll := s.i, cycles := s.cycles + plainCost i s } := by
  rw [exec_completes h hm hr, hd, hi, hc]
  rfl

/-! ## Compares -/

theorem sub_beq_zero (r m : Byte) : (r - m == 0) = decide (r = m) := by
  rw [Bool.beq_eq_decide_eq, decide_eq_decide]
  exact sub_eq_zero

theorem State.compare_eq (s : State) (r m : Byte) :
    s.compare r m = { s with c := decide (m.toNat ≤ r.toNat), z := decide (r = m), n := (r - m).getLsbD 7 } := by
  rw [← sub_beq_zero]
  rfl

theorem exec_compare {i : Instr} {s : State} {m : Mnemonic} {r : Byte} (h : Executes i s) (hm : i.mnemonic = m)
    (hd : delaysIPoll m = false)
    (hr : handlerOf m ⟨s.pc, i.opcode, operandSource i s, pageCrossed i s⟩ (s.advance i) =
      .ran ((s.advance i).compare r ((s.advance i).load (operandSource i s))) 0) :
    exec i s = .next { afterInstr i s with
      c := decide ((operandValue i s).toNat ≤ r.toNat), z := decide (r = operandValue i s),
      n := (r - operandValue i s).getLsbD 7 } := by
  rw [load_advance, State.compare_eq] at hr
  exact exec_completes_plain h hm hd hr rfl rfl

/-- Settles O27: each handler is one comparison of its register with the operand. -/
theorem compares : Obligations.Compares := fun _ _ h =>
  ⟨fun hm => exec_compare h hm rfl rfl, fun hm => exec_compare h hm rfl rfl, fun hm => exec_compare h hm rfl rfl⟩

/-! ## Shifts and rotates -/

theorem shiftLeft_eq (m : Byte) (into : Bool) :
    shiftLeft m into = ⟨BitVec.ofNat 8 (2 * m.toNat + into.toNat), decide (128 ≤ m.toNat)⟩ := by
  revert m into
  decide

theorem shiftRight_eq (m : Byte) (into : Bool) :
    shiftRight m into = ⟨BitVec.ofNat 8 (m.toNat / 2 + 128 * into.toNat), decide (m.toNat % 2 = 1)⟩ := by
  revert m into
  decide

theorem State.storeShift_acc (s : State) (q : ShiftResult) :
    s.storeShift .acc q = { s with a := q.value, c := q.out, n := q.value.getLsbD 7, z := q.value == 0 } := rfl

theorem State.storeShift_addr (s : State) (ea : Word) (q : ShiftResult) :
    s.storeShift (.addr ea) q =
      { s with mem := s.mem.write ea.toNat q.value, c := q.out, n := q.value.getLsbD 7, z := q.value == 0 } := rfl

@[simp] theorem State.storeShift_i (s : State) (src : Src) (q : ShiftResult) : (s.storeShift src q).i = s.i := by
  simp [State.storeShift]

@[simp] theorem State.storeShift_cycles (s : State) (src : Src) (q : ShiftResult) :
    (s.storeShift src q).cycles = s.cycles := by
  simp [State.storeShift]

/-- What R144 to R147 have in common: the result goes to A or to the operand's address, the bit shifted out to C. -/
theorem exec_shift {i : Instr} {s : State} {m : Mnemonic} {q : ShiftResult} {r : Byte} {out : Bool}
    (h : Executes i s) (hm : i.mnemonic = m) (hd : delaysIPoll m = false) (hstores : m ∈ storesOperand)
    (hr : handlerOf m ⟨s.pc, i.opcode, operandSource i s, pageCrossed i s⟩ (s.advance i) =
      .ran ((s.advance i).storeShift (operandSource i s) q) 0)
    (hq : q = ⟨r, out⟩) :
    (operandSource i s = .acc →
      exec i s = .next { afterInstr i s with a := r, c := out, n := r.getLsbD 7, z := r == 0 }) ∧
    (operandSource i s ≠ .acc →
      exec i s = .next { afterInstr i s with
        mem := s.mem.write (operandAddress i s).toNat r, c := out, n := r.getLsbD 7, z := r == 0 }) := by
  subst hq
  have hx := exec_completes_plain h hm hd hr (State.storeShift_i ..) (State.storeShift_cycles ..)
  obtain ⟨-, hsource, -⟩ := operandsFitTheirInstruction i s h.1
  refine ⟨fun hacc => ?_, fun hacc => ?_⟩
  · rw [hacc, State.storeShift_acc] at hx
    exact hx
  · obtain ⟨ea, hea⟩ := (hsource (hm ▸ hstores)).resolve_left hacc
    rw [hea, State.storeShift_addr] at hx
    rw [operandAddress, hea]
    exact hx

/-- Settles O30: each handler stores one shift of the operand, left or right, with 0 or C shifted in. -/
theorem shiftsAndRotates : Obligations.ShiftsAndRotates := by
  rintro i s r out h m (⟨hm, rfl, rfl⟩ | ⟨hm, rfl, rfl⟩ | ⟨hm, rfl, rfl⟩ | ⟨hm, rfl, rfl⟩)
  · exact exec_shift h hm rfl (by decide) rfl (shiftLeft_eq _ false)
  · exact exec_shift h hm rfl (by decide) rfl (shiftRight_eq _ false)
  · exact exec_shift h hm rfl (by decide) rfl (shiftLeft_eq _ s.c)
  · exact exec_shift h hm rfl (by decide) rfl (shiftRight_eq _ s.c)

end Sys2Proof.Machine
end

section
/-! PROOFS. Loads, stores and transfers (spec/42_load_store_transfer.md R113 to R123): each handler copies one byte to a
register, with N and Z from it, or to the operand's address, and the instruction completes as every one does. -/

namespace Sys2Proof.Machine

/-! ## Loads and transfers -/

/-- What R113 to R115 and R119 to R123 have in common: the handler leaves the state `u`, in which the byte `v` is copied
to a register, with N and Z from `v`. -/
theorem exec_setNZ {i : Instr} {s u : State} {m : Mnemonic} {v : Byte} (h : Executes i s) (hm : i.mnemonic = m)
    (hd : delaysIPoll m = false) (hi : u.i = s.i) (hc : u.cycles = s.cycles)
    (hr : handlerOf m ⟨s.pc, i.opcode, operandSource i s, pageCrossed i s⟩ (s.advance i) = .ran (u.setNZ v) 0) :
    exec i s = .next { u with
      n := v.getLsbD 7, z := v == 0, iPoll := s.i, cycles := s.cycles + plainCost i s } :=
  exec_completes_plain h hm hd hr hi hc

/-- Settles O18: each handler copies the operand's value, which it reads with PC already advanced. -/
theorem loadsWriteTheirRegister : Obligations.LoadsWriteTheirRegister := fun i s h =>
  ⟨fun hm => exec_setNZ (u := { s.advance i with a := operandValue i s }) h hm rfl rfl rfl rfl,
    fun hm => exec_setNZ (u := { s.advance i with x := operandValue i s }) h hm rfl rfl rfl rfl,
    fun hm => exec_setNZ (u := { s.advance i with y := operandValue i s }) h hm rfl rfl rfl rfl⟩

/-- Settles O20: each handler copies a register that advancing PC leaves alone. -/
theorem transfersCopy : Obligations.TransfersCopy := fun s =>
  ⟨fun h => exec_setNZ (u := { s.advance .tax with x := s.a }) h rfl rfl rfl rfl rfl,
    fun h => exec_setNZ (u := { s.advance .tay with y := s.a }) h rfl rfl rfl rfl rfl,
    fun h => exec_setNZ (u := { s.advance .txa with a := s.x }) h rfl rfl rfl rfl rfl,
    fun h => exec_setNZ (u := { s.advance .tya with a := s.y }) h rfl rfl rfl rfl rfl,
    fun h => exec_setNZ (u := { s.advance .tsx with x := s.sp }) h rfl rfl rfl rfl rfl⟩

/-! ## Stores -/

/-- R84: only a shift or rotate stores to the accumulator; any other mnemonic that stores to its operand has an address
for it. -/
theorem operandSource_eq_addr_of_stores {i : Instr} {s : State} (hwf : i.wf = true)
    (hstores : i.mnemonic ∈ storesOperand) (hshift : i.mnemonic ∉ accumulatorShifts) :
    operandSource i s = .addr (operandAddress i s) := by
  obtain ⟨-, hsource, -⟩ := operandsFitTheirInstruction i s hwf
  rcases hsource hstores with hacc | ⟨ea, hea⟩
  · exact absurd (mnemonic_of_accumulator ((operandSource_eq_acc_iff i s).mp hacc)) hshift
  · rw [operandAddress, hea]
    rfl

/-- What R116 to R118 have in common: the handler stores `v` to its operand, which is a byte of memory. -/
theorem exec_store {i : Instr} {s : State} {m : Mnemonic} {v : Byte} (h : Executes i s) (hm : i.mnemonic = m)
    (hd : delaysIPoll m = false) (hstores : m ∈ storesOperand) (hshift : m ∉ accumulatorShifts)
    (hr : handlerOf m ⟨s.pc, i.opcode, operandSource i s, pageCrossed i s⟩ (s.advance i) =
      .ran ((s.advance i).store (operandSource i s) v) 0) :
    exec i s = .next { afterInstr i s with mem := s.mem.write (operandAddress i s).toNat v } := by
  have hx := exec_completes_plain h hm hd hr (State.store_i ..) (State.store_cycles ..)
  rw [operandSource_eq_addr_of_stores h.1 (hm ▸ hstores) (hm ▸ hshift)] at hx
  exact hx

/-- Settles O19: each handler is one store of its register to the operand. -/
theorem storesWriteMemory : Obligations.StoresWriteMemory := fun _ _ h =>
  ⟨fun hm => exec_store h hm rfl (by decide) (by decide) rfl,
    fun hm => exec_store h hm rfl (by decide) (by decide) rfl,
    fun hm => exec_store h hm rfl (by decide) (by decide) rfl⟩

end Sys2Proof.Machine
end

section
/-! PROOFS. The accumulator on the stack (spec/43_stack.md R125, R127): PHA is one push and PLA one pull into A with N
and Z, and the instruction completes as every one does. -/

namespace Sys2Proof.Machine

/-- Settles O21: the handlers push or pull with only PC advanced, and advancing PC moves neither stack address
(`pushAddress_advance`, `pulled_advance`). -/
theorem accumulatorOnTheStack : Obligations.AccumulatorOnTheStack := fun s =>
  ⟨fun h => exec_completes_plain (t := (s.advance .pha).push s.a) h rfl rfl rfl rfl rfl,
    fun h => exec_setNZ (u := { (s.advance .pla).afterPull with a := s.pulled }) h rfl rfl rfl rfl rfl⟩

end Sys2Proof.Machine
end

section
/-! PROOFS. Logic, increments and decrements (spec/44_arithmetic_logic.md R131 to R133, R138 to R143): each handler puts
one result in a register or in the operand's byte, with N and Z from it, and the instruction completes as every one
does. -/

namespace Sys2Proof.Machine

/-! ## Logic -/

/-- Settles O26: each handler puts its result in A, and reads its operand with PC already advanced. -/
theorem logicWritesA : Obligations.LogicWritesA := by
  rintro i s r h (⟨hm, rfl⟩ | ⟨hm, rfl⟩ | ⟨hm, rfl⟩)
  · exact exec_setNZ (u := { s.advance i with a := s.a &&& operandValue i s }) h hm rfl rfl rfl rfl
  · exact exec_setNZ (u := { s.advance i with a := s.a ||| operandValue i s }) h hm rfl rfl rfl rfl
  · exact exec_setNZ (u := { s.advance i with a := s.a ^^^ operandValue i s }) h hm rfl rfl rfl rfl

/-! ## Increments and decrements -/

theorem add_one_eq_ofNat (b : Byte) : b + 1 = BitVec.ofNat 8 (b.toNat + 1) := by
  rw [BitVec.ofNat_add, BitVec.ofNat_toNat, BitVec.setWidth_eq]
  rfl

/-- One less mod 256 is 255 more. -/
theorem sub_one_eq_ofNat (b : Byte) : b - 1 = BitVec.ofNat 8 (b.toNat + 255) := by
  rw [BitVec.ofNat_add, BitVec.ofNat_toNat, BitVec.setWidth_eq, BitVec.sub_eq_add_neg]
  rfl

/-- What R138 and R139 have in common: the handler stores `v` to its operand, which is a byte of memory, and takes N and
Z from it. -/
theorem exec_storeNZ {i : Instr} {s : State} {m : Mnemonic} {v : Byte} (h : Executes i s) (hm : i.mnemonic = m)
    (hd : delaysIPoll m = false) (hstores : m ∈ storesOperand) (hshift : m ∉ accumulatorShifts)
    (hr : handlerOf m ⟨s.pc, i.opcode, operandSource i s, pageCrossed i s⟩ (s.advance i) =
      .ran (((s.advance i).store (operandSource i s) v).setNZ v) 0) :
    exec i s = .next { afterInstr i s with
      n := v.getLsbD 7, z := v == 0, mem := s.mem.write (operandAddress i s).toNat v } := by
  have hx := exec_setNZ (u := (s.advance i).store (operandSource i s) v) h hm hd (State.store_i ..)
    (State.store_cycles ..) hr
  rw [operandSource_eq_addr_of_stores h.1 (hm ▸ hstores) (hm ▸ hshift)] at hx
  exact hx

/-- Settles O29: each handler writes the byte plus or minus one, to memory (`exec_storeNZ`) or to its register
(`exec_setNZ`). -/
theorem incrementsAndDecrements : Obligations.IncrementsAndDecrements := by
  intro i s h
  simp only [← add_one_eq_ofNat, ← sub_one_eq_ofNat]
  refine ⟨fun hm => ?inc, fun hm => ?dec, fun hm => ?inx, fun hm => ?iny, fun hm => ?dex, fun hm => ?dey⟩
  case inc => exact exec_storeNZ (v := operandValue i s + 1) h hm rfl (by decide) (by decide) rfl
  case dec => exact exec_storeNZ (v := operandValue i s - 1) h hm rfl (by decide) (by decide) rfl
  case inx => exact exec_setNZ (u := { s.advance i with x := s.x + 1 }) h hm rfl rfl rfl rfl
  case iny => exact exec_setNZ (u := { s.advance i with y := s.y + 1 }) h hm rfl rfl rfl rfl
  case dex => exact exec_setNZ (u := { s.advance i with x := s.x - 1 }) h hm rfl rfl rfl rfl
  case dey => exact exec_setNZ (u := { s.advance i with y := s.y - 1 }) h hm rfl rfl rfl rfl

end Sys2Proof.Machine
end

section
/-! PROOFS. The branches (spec/46_control_flow.md R148 to R156; spec/41_dispatch.md R94): each handler is one `branch` on
its flag, and the instruction completes as every one does. -/

namespace Sys2Proof.Machine

/-! ## The branch on the advanced state -/

theorem ite_crosses {α : Type} (base ea : Word) (x y : α) :
    (if crosses base ea then x else y) = if highByte base = highByte ea then y else x := by
  simp only [crosses, bne_iff_ne, ne_eq, ite_not, eq_comm (a := highByte ea)]

/-- R94 under both settings of BRANCH_PAGE_REF: the handler's PC, already advanced, is the next instruction's address. -/
theorem branchReference_advance (i : Instr) (s : State) (src : Src) (pcross : Bool) :
    branchReference ⟨s.pc, i.opcode, src, pcross⟩ (s.advance i) = branchPageBase i s := by
  cases hp : s.params.branchPageRef <;> simp only [branchReference, branchPageBase, State.advance, nextPc, hp]

/-- R148 on the advanced state: PC at the target or left where it is, and the cycles added. -/
theorem branch_advance (i : Instr) (s : State) (taken : Bool) :
    branch taken ⟨s.pc, i.opcode, operandSource i s, pageCrossed i s⟩ (s.advance i) =
      .ran { s with pc := if taken then operandAddress i s else nextPc i s }
        (if !taken then 0
          else if highByte (branchPageBase i s) = highByte (operandAddress i s) then 1 else 2) := by
  cases taken with
  | false => rfl
  | true =>
    rw [branch, branchReference_advance, ite_crosses]
    rfl

/-! ## The cost of a branch that is not taken -/

theorem descriptor_cost_of_branch (op : Byte) (h : (descriptor op).mnemonic ∈ branches) :
    (descriptor op).baseCycles = 2 ∧ (descriptor op).pageCrossPlus1 = false := by
  revert op
  decide

theorem plainCost_of_branch {i : Instr} (h : i.mnemonic ∈ branches) (s : State) : plainCost i s = 2 := by
  obtain ⟨hbase, hcross⟩ := descriptor_cost_of_branch i.opcode h
  simp [plainCost, Instr.desc, hbase, hcross]

/-! ## The instructions -/

theorem delaysIPoll_of_branch : ∀ m ∈ branches, delaysIPoll m = false := by decide

/-- What R149 to R156 have in common: the table's row for the opcode names a branch, whose handler is `branch` on its
condition `taken`. -/
theorem exec_branch {i : Instr} {s : State} {taken : Bool} (op : Byte) (m : Mnemonic) (h : Executes i s)
    (hop : i.opcode = op) (hm : (descriptor op).mnemonic = m) (hbranch : m ∈ branches)
    (hr : handlerOf m ⟨s.pc, i.opcode, operandSource i s, pageCrossed i s⟩ (s.advance i) =
      branch taken ⟨s.pc, i.opcode, operandSource i s, pageCrossed i s⟩ (s.advance i)) :
    exec i s = .next (afterBranch i s taken) := by
  subst hop
  have hmnemonic : i.mnemonic = m := hm
  rw [exec_completes h hmnemonic (hr.trans (branch_advance i s taken)), delaysIPoll_of_branch m hbranch,
    plainCost_of_branch (hmnemonic ▸ hbranch)]
  rfl

/-- Settles O31: each handler tests its flag in the advanced state, where it is as before. -/
theorem branchesFollowTheirFlag : Obligations.BranchesFollowTheirFlag := fun _ _ =>
  ⟨fun h => exec_branch 0x10 .BPL h rfl rfl (by decide) rfl,
    fun h => exec_branch 0x30 .BMI h rfl rfl (by decide) rfl,
    fun h => exec_branch 0x50 .BVC h rfl rfl (by decide) rfl,
    fun h => exec_branch 0x70 .BVS h rfl rfl (by decide) rfl,
    fun h => exec_branch 0x90 .BCC h rfl rfl (by decide) rfl,
    fun h => exec_branch 0xB0 .BCS h rfl rfl (by decide) rfl,
    fun h => exec_branch 0xD0 .BNE h rfl rfl (by decide) rfl,
    fun h => exec_branch 0xF0 .BEQ h rfl rfl (by decide) rfl⟩

end Sys2Proof.Machine
end

section
/-! PROOFS. Refusals (spec/41_dispatch.md R110; spec/48_undocumented.md R170, R172, R184, R189 to R192): the policy's,
and those that the handlers of JAM, the unstable stores and ARR raise. -/

namespace Sys2Proof.Machine

/-- The stores that are refused on a page cross (R189 to R192). -/
def unstableMnemonics : List Mnemonic := [.SHA, .SHX, .SHY, .TAS]

/-- When the handler of the mnemonic `m` refuses, and why (R172, R184, R189 to R192). -/
inductive HandlerRefuses (m : Mnemonic) (r : Resolved) (s : State) : Refusal → Prop
  /-- a JAM byte that is no halt byte -/
  | jam (hm : m = .JAM) : HandlerRefuses m r s (.undocumentedRefused r.op)
  /-- an unstable store across a page -/
  | unstable (hm : m ∈ unstableMnemonics) (hcross : r.pcross = true) : HandlerRefuses m r s (.unstableStore r.op)
  /-- ARR in decimal mode -/
  | decimal (hm : m = .ARR) (hdec : s.decimal = true) : HandlerRefuses m r s .decimalArr

theorem HandlerRefuses.mnemonic_mem {m : Mnemonic} {r : Resolved} {s : State} {q : Refusal}
    (h : HandlerRefuses m r s q) : m ∈ .JAM :: .ARR :: unstableMnemonics := by
  cases h with
  | jam hm | decimal hm => simp [hm]
  | unstable hm => simp [hm]

theorem branch_ne_refuse (taken : Bool) (r : Resolved) (s : State) (q : Refusal) : branch taken r s ≠ .refuse q := by
  cases taken <;> rintro ⟨⟩

theorem unstableStore_refuse_iff {index v : Byte} {r : Resolved} {s : State} {q : Refusal} :
    unstableStore index v r s = .refuse q ↔ r.pcross = true ∧ q = .unstableStore r.op := by
  unfold unstableStore
  cases r.pcross <;> simp [eq_comm]

theorem handleArr_refuse_iff {r : Resolved} {s : State} {q : Refusal} :
    handleArr r s = .refuse q ↔ s.decimal = true ∧ q = .decimalArr := by
  unfold handleArr
  cases s.decimal <;> simp [eq_comm]

theorem handlerRefuses_of_refuse {m : Mnemonic} {r : Resolved} {s : State} {q : Refusal}
    (h : handlerOf m r s = .refuse q) : HandlerRefuses m r s q := by
  cases m with
  | JAM =>
    cases h
    exact .jam rfl
  | SHA | SHX | SHY | TAS =>
    obtain ⟨hcross, rfl⟩ := unstableStore_refuse_iff.mp h
    exact .unstable (by decide) hcross
  | ARR =>
    obtain ⟨hdec, rfl⟩ := handleArr_refuse_iff.mp h
    exact .decimal rfl hdec
  | BPL | BMI | BVC | BVS | BCC | BCS | BNE | BEQ => exact absurd h (branch_ne_refuse _ _ _ _)
  | _ => cases h

theorem handlerOf_refuse_iff {m : Mnemonic} {r : Resolved} {s : State} {q : Refusal} :
    handlerOf m r s = .refuse q ↔ HandlerRefuses m r s q := by
  refine ⟨handlerRefuses_of_refuse, fun h => ?_⟩
  cases h with
  | jam hm => rw [hm]; rfl
  | decimal hm hdec => rw [hm]; exact handleArr_refuse_iff.mpr ⟨hdec, rfl⟩
  | unstable hm hcross =>
    simp only [unstableMnemonics, List.mem_cons, List.not_mem_nil, or_false] at hm
    rcases hm with rfl | rfl | rfl | rfl <;> exact unstableStore_refuse_iff.mpr ⟨hcross, rfl⟩

/-! ## The instructions -/

/-- R88, R110, R170: an instruction is refused by the policy or by its handler. -/
theorem exec_refused_iff {i : Instr} {s : State} {q : Refusal} (hwf : i.wf = true) :
    exec i s = .refused q ↔ i.opcode ∉ s.params.haltOpcodes ∧
      (i.desc.documented = false ∧ s.params.undocPolicy = .refuse ∧ q = .undocumentedRefused i.opcode ∨
        (i.desc.documented = true ∨ s.params.undocPolicy = .nmos) ∧
          HandlerRefuses i.mnemonic ⟨s.pc, i.opcode, operandSource i s, pageCrossed i s⟩ (s.advance i) q) := by
  rw [exec_eq i hwf, ← handlerOf_refuse_iff]
  rcases runInstr_cases i (handlerOf i.mnemonic) s with ⟨hop, hx⟩ | ⟨hop, hdoc, hpol, hx⟩ | ⟨hop, hpol, hran⟩
  · simp [hx, hop]
  · simp [hx, hop, hdoc, hpol, eq_comm]
  · have hno : ¬(i.desc.documented = false ∧ s.params.undocPolicy = .refuse) := by
      rcases hpol with hpol | hpol <;> simp [hpol]
    rcases hran with ⟨r, hr, hx⟩ | ⟨t, e, hr, hx⟩
    · simp only [hx, hr, hop, hpol, Host.Outcome.refused.injEq, Handled.refuse.injEq, not_false_eq_true, true_and]
      tauto
    · simp only [hx, hr]
      tauto

theorem exec_next_or_refused (i : Instr) (s : State) (hwf : i.wf = true) :
    (∃ t, exec i s = .next t) ∨ ∃ q, exec i s = .refused q := by
  rw [exec_eq i hwf]
  rcases runInstr_cases i (handlerOf i.mnemonic) s with ⟨-, hx⟩ | ⟨-, -, -, hx⟩ | ⟨-, -, ⟨q, -, hx⟩ | ⟨t, e, -, hx⟩⟩
  · exact .inl ⟨_, hx⟩
  · exact .inr ⟨_, hx⟩
  · exact .inr ⟨_, hx⟩
  · exact .inl ⟨_, hx⟩

/-- R58, R59: the mnemonics whose handlers can refuse are undocumented. -/
theorem descriptor_documented_of_refuses (op : Byte)
    (h : (descriptor op).mnemonic ∈ .JAM :: .ARR :: unstableMnemonics) : (descriptor op).documented = false := by
  revert op
  decide

theorem State.decimal_iff (s : State) : s.decimal = true ↔ s.d = true ∧ s.params.decimalMode = .nmos := by
  simp [State.decimal]

/-- Settles O41: a refusal is the policy's or the handler's; a handler that refuses is that of an undocumented opcode.
-/
theorem refusalsExactly : Obligations.RefusalsExactly := by
  intro i s hwf dec
  refine ⟨fun r => ?_, fun h => (exec_next_or_refused i s hwf).resolve_right (not_exists.mpr h)⟩
  rw [exec_refused_iff hwf]
  refine and_congr_right fun _ => ⟨?_, ?_⟩
  · rintro (⟨hdoc, hpol, rfl⟩ | ⟨hpol, href⟩)
    · exact ⟨hdoc, .inl ⟨.inl hpol, rfl⟩⟩
    · have hdoc : i.desc.documented = false := descriptor_documented_of_refuses i.opcode href.mnemonic_mem
      have hnmos : s.params.undocPolicy = .nmos := hpol.resolve_left (by simp [hdoc])
      cases href with
      | jam hm => exact ⟨hdoc, .inl ⟨.inr hm, rfl⟩⟩
      | unstable hm hcross => exact ⟨hdoc, .inr (.inl ⟨hnmos, hm, hcross, rfl⟩)⟩
      | decimal hm hdec => exact ⟨hdoc, .inr (.inr ⟨hnmos, hm, (State.decimal_iff _).mp hdec, rfl⟩)⟩
  · rintro ⟨hdoc, ⟨hpol | hm, rfl⟩ | ⟨hpol, hm, hcross, rfl⟩ | ⟨hpol, hm, hdec, rfl⟩⟩
    · exact .inl ⟨hdoc, hpol, rfl⟩
    · cases hpol : s.params.undocPolicy with
      | refuse => exact .inl ⟨hdoc, rfl, rfl⟩
      | nmos => exact .inr ⟨.inr rfl, .jam hm⟩
    · exact .inr ⟨.inr hpol, .unstable hm hcross⟩
    · exact .inr ⟨.inr hpol, .decimal hm ((State.decimal_iff _).mpr hdec)⟩

end Sys2Proof.Machine
end

section
/-! PROOFS. The memory frame (spec/20_memory.md R36, R37, R40 to R42): memory changes only at the addresses that the
instruction stores to. -/

namespace Sys2Proof.Machine

/-! ## The addresses stored to -/

theorem storedAddresses_of_stores {i : Instr} {s : State} {ea : Word} (hm : i.mnemonic ∈ storesOperand)
    (hsrc : operandSource i s = .addr ea) : storedAddresses i s = [ea] := by
  simp only [storedAddresses, hm, if_true, hsrc]

theorem storedAddresses_pha_php {i : Instr} (hm : i.mnemonic = .PHA ∨ i.mnemonic = .PHP) (s : State) :
    storedAddresses i s = [s.pushAddress] := by
  rcases hm with hm | hm <;> simp [storedAddresses, hm, storesOperand]

theorem storedAddresses_jsr {i : Instr} (hm : i.mnemonic = .JSR) (s : State) :
    storedAddresses i s = [s.pushAddress, (s.push 0).pushAddress] := by
  simp [storedAddresses, hm, storesOperand]

theorem storedAddresses_brk {i : Instr} (hm : i.mnemonic = .BRK) (s : State) :
    storedAddresses i s = [s.pushAddress, (s.push 0).pushAddress, ((s.push 0).push 0).pushAddress] := by
  simp [storedAddresses, hm, storesOperand]

/-! ## Reads outside them -/

theorem State.read_push_of_ne {s : State} (h : s.mem.wf) (v : Byte) {a : Word} (ha : a ≠ s.pushAddress) :
    (s.push v).read a = s.read a := by
  rw [State.read_push h, if_neg ha]

theorem State.read_pushWord_of_ne {s : State} (h : s.mem.wf) (w : Word) {a : Word} (h0 : a ≠ s.pushAddress)
    (h1 : a ≠ (s.push 0).pushAddress) : (s.pushWord w).read a = s.read a :=
  (State.read_push_of_ne (s := s.push (highByte w)) (State.wf_push h _) _ h1).trans (State.read_push_of_ne h _ h0)

theorem State.read_enterHandler_of_ne {s : State} (h : s.mem.wf) (w : Word) (bit4 : Bool) (vector : Word) {a : Word}
    (h0 : a ≠ s.pushAddress) (h1 : a ≠ (s.push 0).pushAddress) (h2 : a ≠ ((s.push 0).push 0).pushAddress) :
    (s.enterHandler w bit4 vector).read a = s.read a :=
  calc (s.enterHandler w bit4 vector).read a
    _ = ((s.pushWord w).push (s.statusByte bit4)).read a := rfl
    _ = (s.pushWord w).read a := State.read_push_of_ne (State.wf_push (State.wf_push h _) _) _ h2
    _ = s.read a := State.read_pushWord_of_ne h w h0 h1

/-- What the memory frame says of the memory that a handler leaves. `MemoryAfter` allows a store to an operand that has
no address; `hacc` says that nothing is written there. -/
theorem MemoryAfter.read_eq {i : Instr} {s : State} {mem : Memory} (hs : s.mem.wf) (hwf : i.wf = true)
    (hacc : operandSource i s = .acc → mem = s.mem) (h : MemoryAfter i.mnemonic (operandSource i s) (s.advance i) mem)
    {a : Word} (ha : a ∉ storedAddresses i s) : mem.read a.toNat = s.read a := by
  cases h with
  | kept => rfl
  | stored v hm =>
    obtain ⟨-, hsource, -⟩ := operandsFitTheirInstruction i s hwf
    rcases hsource hm with hsrc | ⟨ea, hsrc⟩
    · rw [hacc hsrc]
      rfl
    · rw [storedAddresses_of_stores hm hsrc, List.mem_singleton] at ha
      rw [hsrc]
      exact (State.read_write (s := s.advance i) hs ea v a).trans (if_neg ha)
  | pushed v hm =>
    rw [storedAddresses_pha_php hm, List.mem_singleton] at ha
    exact State.read_push_of_ne (s := s.advance i) hs v ha
  | called w hm =>
    simp only [storedAddresses_jsr hm, List.mem_cons, List.not_mem_nil, or_false, not_or] at ha
    obtain ⟨h0, h1⟩ := ha
    exact State.read_pushWord_of_ne (s := s.advance i) hs w h0 h1
  | entered w hm =>
    simp only [storedAddresses_brk hm, List.mem_cons, List.not_mem_nil, or_false, not_or] at ha
    obtain ⟨h0, h1, h2⟩ := ha
    exact State.read_enterHandler_of_ne (s := s.advance i) hs w true irqVector h0 h1 h2

/-- A shift or rotate of the accumulator writes no memory (R84, R144 to R147). -/
theorem accumulatorShift_mem {m : Mnemonic} {r : Resolved} {s t : State} {e : Nat} (hm : m ∈ accumulatorShifts)
    (hsrc : r.src = .acc) (h : handlerOf m r s = .ran t e) : t.mem = s.mem := by
  have hkeep (q : ShiftResult) : (s.storeShift r.src q).mem = s.mem := by rw [hsrc, State.storeShift_acc]
  simp only [accumulatorShifts, List.mem_cons, List.not_mem_nil, or_false] at hm
  rcases hm with rfl | rfl | rfl | rfl <;> cases h <;> exact hkeep _

/-- Settles O54: the memory that each handler can leave (`MemoryAfter`) differs only at the stored addresses. -/
theorem memoryFrame : Obligations.MemoryFrame := by
  intro i s t hwf hs hex a ha
  rcases exec_next_cases hwf hex with rfl | ⟨u, e, hran, rfl⟩
  · rfl
  · refine MemoryAfter.read_eq hs hwf (fun hsrc => ?_) (handlerOf_memoryAfter hran) ha
    have hm := mnemonic_of_accumulator ((operandSource_eq_acc_iff i s).mp hsrc)
    exact accumulatorShift_mem (s := s.advance i) hm hsrc hran

end Sys2Proof.Machine
end

section
/-! PROOFS. The flags: which handler can change which (spec/10_state.md R18, R19). -/

namespace Sys2Proof.Machine

/-- The mnemonics whose handler writes neither N nor Z (R18). -/
def nzKeepers : List Mnemonic :=
  [.STA, .STX, .STY, .TXS, .PHA, .PHP, .BPL, .BMI, .BVC, .BVS, .BCC, .BCS, .BNE, .BEQ, .JMP, .JSR, .RTS, .BRK, .CLC,
    .SEC, .CLI, .SEI, .CLD, .SED, .CLV, .NOP, .JAM, .SAX, .SHA, .SHX, .SHY, .TAS]

/-- The mnemonics whose handler writes V (R19). -/
def vWriters : List Mnemonic := [.ADC, .SBC, .BIT, .CLV, .PLP, .RTI, .RRA, .ISC, .ARR, .USBC]

/-- The mnemonics whose handler writes D (R19). -/
def dWriters : List Mnemonic := [.SED, .CLD, .PLP, .RTI]

/-- The mnemonics whose handler writes I (R19). -/
def iWriters : List Mnemonic := [.SEI, .CLI, .PLP, .RTI, .BRK]

/-- The mnemonics whose handler writes C (R19). -/
def cWriters : List Mnemonic :=
  [.ADC, .SBC, .CMP, .CPX, .CPY, .ASL, .LSR, .ROL, .ROR, .CLC, .SEC, .PLP, .RTI, .SLO, .RLA, .SRE, .RRA, .DCP, .ISC,
    .ANC, .ALR, .ARR, .SBX, .USBC]

/-- From `s` to `t` each flag is kept unless the mnemonic `m` is among its writers (R18, R19). -/
structure FlagsWritten (m : Mnemonic) (s t : State) : Prop where
  nz : t.n = s.n ∧ t.z = s.z ∨ m ∉ nzKeepers
  v : t.v = s.v ∨ m ∈ vWriters
  b : t.b = s.b ∨ m = .BRK ∧ t.b = true
  d : t.d = s.d ∨ m ∈ dWriters
  i : t.i = s.i ∨ m ∈ iWriters
  c : t.c = s.c ∨ m ∈ cWriters

/-- Two states agree on every flag. -/
structure SameFlags (s t : State) : Prop where
  n : t.n = s.n
  v : t.v = s.v
  b : t.b = s.b
  d : t.d = s.d
  i : t.i = s.i
  z : t.z = s.z
  c : t.c = s.c

theorem SameFlags.flagsWritten {s t : State} (h : SameFlags s t) (m : Mnemonic) : FlagsWritten m s t :=
  ⟨.inl ⟨h.n, h.z⟩, .inl h.v, .inl h.b, .inl h.d, .inl h.i, .inl h.c⟩

/-! ## The operations that handlers share -/

theorem store_sameFlags (s : State) (src : Src) (v : Byte) : SameFlags s (s.store src v) :=
  ⟨s.store_n src v, s.store_v src v, s.store_b src v, s.store_d src v, s.store_i src v, s.store_z src v,
    s.store_c src v⟩

theorem branch_sameFlags {taken : Bool} {r : Resolved} {s t : State} {e : Nat} (h : branch taken r s = .ran t e) :
    SameFlags s t := by
  cases taken <;> cases h <;> exact ⟨rfl, rfl, rfl, rfl, rfl, rfl, rfl⟩

theorem unstableStore_sameFlags {index v : Byte} {r : Resolved} {s t : State} {e : Nat}
    (h : unstableStore index v r s = .ran t e) : SameFlags s t := by
  unfold unstableStore at h
  split at h
  · cases h
  · cases h
    exact ⟨rfl, rfl, rfl, rfl, rfl, rfl, rfl⟩

/-- Of the flags, entering a handler writes I only (R161, R198). -/
theorem enterHandler_keepsFlags (s : State) (w : Word) (bit4 : Bool) (vector : Word) :
    (s.enterHandler w bit4 vector).n = s.n ∧ (s.enterHandler w bit4 vector).v = s.v ∧
    (s.enterHandler w bit4 vector).d = s.d ∧ (s.enterHandler w bit4 vector).z = s.z ∧
    (s.enterHandler w bit4 vector).c = s.c := by
  simp [State.enterHandler, State.pushWord]

/-! ## The handlers, grouped by the flags that they write -/

theorem handlerOf_flagsWritten {m : Mnemonic} {r : Resolved} {s t : State} {e : Nat}
    (h : handlerOf m r s = .ran t e) : FlagsWritten m s t := by
  cases m with
  | BPL | BMI | BVC | BVS | BCC | BCS | BNE | BEQ => exact (branch_sameFlags h).flagsWritten _
  | SHA | SHX | SHY => exact (unstableStore_sameFlags h).flagsWritten _
  | TAS =>
    obtain ⟨hn, hv, hb, hd, hi, hz, hc⟩ := unstableStore_sameFlags h
    exact ⟨.inl ⟨hn, hz⟩, .inl hv, .inl hb, .inl hd, .inl hi, .inl hc⟩
  | JAM => cases h
  | STA | STX | STY | SAX =>
    cases h
    exact (store_sameFlags s r.src _).flagsWritten _
  | TXS | PHA | PHP | JMP | JSR | RTS | NOP =>
    cases h
    exact ⟨.inl ⟨rfl, rfl⟩, .inl rfl, .inl rfl, .inl rfl, .inl rfl, .inl rfl⟩
  | LDA | LDX | LDY | LAX | LAS | TAX | TAY | TXA | TYA | TSX | PLA | AND | ORA | EOR | INX | INY | DEX | DEY | ANE
  | LXA =>
    cases h
    exact ⟨.inr (by decide), .inl rfl, .inl rfl, .inl rfl, .inl rfl, .inl rfl⟩
  | INC | DEC =>
    cases h
    exact ⟨.inr (by decide), .inl (State.store_v ..), .inl (State.store_b ..), .inl (State.store_d ..),
      .inl (State.store_i ..), .inl (State.store_c ..)⟩
  | BIT =>
    cases h
    exact ⟨.inr (by decide), .inr (by decide), .inl rfl, .inl rfl, .inl rfl, .inl rfl⟩
  | CMP | CPX | CPY | ANC | ALR | SBX =>
    cases h
    exact ⟨.inr (by decide), .inl rfl, .inl rfl, .inl rfl, .inl rfl, .inr (by decide)⟩
  | ASL | LSR | ROL | ROR | SLO | RLA | SRE | DCP =>
    cases h
    exact ⟨.inr (by decide), .inl (State.store_v ..), .inl (State.store_b ..), .inl (State.store_d ..),
      .inl (State.store_i ..), .inr (by decide)⟩
  | ADC | SBC | USBC =>
    cases h
    exact ⟨.inr (by decide), .inr (by decide), .inl rfl, .inl rfl, .inl rfl, .inr (by decide)⟩
  | RRA | ISC =>
    cases h
    exact ⟨.inr (by decide), .inr (by decide), .inl (State.store_b ..), .inl (State.store_d ..),
      .inl (State.store_i ..), .inr (by decide)⟩
  | ARR =>
    simp only [handlerOf, handleArr] at h
    split at h
    · cases h
    · cases h
      exact ⟨.inr (by decide), .inr (by decide), .inl rfl, .inl rfl, .inl rfl, .inr (by decide)⟩
  | PLP | RTI =>
    cases h
    exact ⟨.inr (by decide), .inr (by decide), .inl rfl, .inr (by decide), .inr (by decide), .inr (by decide)⟩
  | BRK =>
    cases h
    obtain ⟨hn, hv, hd, hz, hc⟩ := enterHandler_keepsFlags s (s.pc + 1) true irqVector
    exact ⟨.inl ⟨hn, hz⟩, .inl hv, .inr ⟨rfl, rfl⟩, .inl hd, .inr (by decide), .inl hc⟩
  | CLC | SEC =>
    cases h
    exact ⟨.inl ⟨rfl, rfl⟩, .inl rfl, .inl rfl, .inl rfl, .inl rfl, .inr (by decide)⟩
  | CLI | SEI =>
    cases h
    exact ⟨.inl ⟨rfl, rfl⟩, .inl rfl, .inl rfl, .inl rfl, .inr (by decide), .inl rfl⟩
  | CLD | SED =>
    cases h
    exact ⟨.inl ⟨rfl, rfl⟩, .inl rfl, .inl rfl, .inr (by decide), .inl rfl, .inl rfl⟩
  | CLV =>
    cases h
    exact ⟨.inl ⟨rfl, rfl⟩, .inr (by decide), .inl rfl, .inl rfl, .inl rfl, .inl rfl⟩

/-! ## The instructions -/

theorem exec_flagsWritten {i : Instr} {s t : State} (hwf : i.wf = true) (h : exec i s = .next t) :
    FlagsWritten i.mnemonic s t := by
  rcases exec_next_cases hwf h with rfl | ⟨u, e, hran, rfl⟩
  · exact ⟨.inl ⟨rfl, rfl⟩, .inl rfl, .inl rfl, .inl rfl, .inl rfl, .inl rfl⟩
  · obtain ⟨hnz, hv, hb, hd, hi, hc⟩ := handlerOf_flagsWritten hran
    exact ⟨hnz, hv, hb, hd, hi, hc⟩

/-- Settles O56: halting changes no flag, and otherwise each handler writes only those that its group names. -/
theorem flagWriters : Obligations.FlagWriters := by
  intro i s t hwf hex
  obtain ⟨hnz, hv, hb, hd, hi, hc⟩ := exec_flagsWritten hwf hex
  refine ⟨fun hne => hnz.resolve_left fun ⟨hn, hz⟩ => ?_, hv.resolve_left, hb.resolve_left, hd.resolve_left,
    hi.resolve_left, hc.resolve_left⟩
  exact hne.elim (absurd hn) (absurd hz)

end Sys2Proof.Machine
end

section
/-! PROOFS. What no handler touches, and what no handler reads: the parameters, the inputs, the latches and the counter
(spec/10_state.md R22 to R28), and the stored B (R20, R212). -/

namespace Sys2Proof.Machine

/-! ## The fields that no handler writes -/

/-- The fields that no handler writes: parameters, inputs, latches, the cycle counter. -/
structure Settings where
  params : Params
  irqIn : Bool
  nmiIn : Bool
  halted : Bool
  nmiPending : Bool
  nmiPrev : Bool
  cycles : Nat

def State.settings (s : State) : Settings :=
  ⟨s.params, s.irqIn, s.nmiIn, s.halted, s.nmiPending, s.nmiPrev, s.cycles⟩

/-- From `s` to `t` the settings are kept, and at most one draw is made (R109). -/
structure SettingsKept (s t : State) : Prop where
  settings : t.settings = s.settings
  draws : t.draws = s.draws ∨ t.draws = s.draws + 1

theorem SettingsKept.draws_le {s t : State} (h : SettingsKept s t) : s.draws ≤ t.draws := by
  rcases h.draws with h | h <;> omega

theorem store_settingsKept (s : State) (src : Src) (v : Byte) : SettingsKept s (s.store src v) := by
  cases src <;> exact ⟨rfl, .inl rfl⟩

theorem enterHandler_settingsKept (s : State) (w : Word) (bit4 : Bool) (vector : Word) :
    SettingsKept s (s.enterHandler w bit4 vector) where
  settings := by simp [State.settings, State.enterHandler, State.pushWord]
  draws := by simp [State.enterHandler, State.pushWord]

theorem leaveHandler_settingsKept (s : State) : SettingsKept s s.leaveHandler where
  settings := by simp [State.settings, State.leaveHandler, State.afterPullWord]
  draws := by simp [State.leaveHandler, State.afterPullWord]

/-- What a handler answers keeps the settings of the state `s` that it was given. -/
def Handled.KeepsSettings (s : State) : Handled → Prop
  | .ran t _ => SettingsKept s t
  | .refuse _ => True

theorem branch_keepsSettings (taken : Bool) (r : Resolved) (s : State) : (branch taken r s).KeepsSettings s := by
  cases taken <;> exact ⟨rfl, .inl rfl⟩

/-- For a handler that may have written SP before it stores, as TAS does (R192). -/
theorem unstableStore_keepsSettings {s u : State} (h : SettingsKept s u) (index v : Byte) (r : Resolved) :
    (unstableStore index v r u).KeepsSettings s := by
  unfold unstableStore
  split
  · trivial
  · exact ⟨h.settings, h.draws⟩

theorem handleArr_keepsSettings (r : Resolved) (s : State) : (handleArr r s).KeepsSettings s := by
  unfold handleArr
  simp only
  split
  · trivial
  · exact ⟨rfl, .inl rfl⟩

theorem handlerOf_keepsSettings (m : Mnemonic) (r : Resolved) (s : State) : (handlerOf m r s).KeepsSettings s := by
  cases m with
  | BPL | BMI | BVC | BVS | BCC | BCS | BNE | BEQ => exact branch_keepsSettings _ r s
  | SHA | SHX | SHY => exact unstableStore_keepsSettings (u := s) ⟨rfl, .inl rfl⟩ _ _ r
  | TAS => exact unstableStore_keepsSettings (s := s) (u := { s with sp := s.a &&& s.x }) ⟨rfl, .inl rfl⟩ _ _ r
  | ARR => exact handleArr_keepsSettings r s
  | STA | STX | STY | SAX | INC | DEC | DCP | SLO | RLA | SRE | RRA | ISC =>
    obtain ⟨hsettings, hdraws⟩ := store_settingsKept s r.src _
    exact ⟨hsettings, hdraws⟩
  | ASL | LSR | ROL | ROR =>
    obtain ⟨hsettings, hdraws⟩ := store_settingsKept { s with c := _ } r.src _
    exact ⟨hsettings, hdraws⟩
  | ANE | LXA => exact ⟨rfl, .inr rfl⟩
  | JAM => trivial
  | BRK =>
    obtain ⟨hsettings, hdraws⟩ := enterHandler_settingsKept s (s.pc + 1) true irqVector
    exact ⟨hsettings, hdraws⟩
  | RTI => exact leaveHandler_settingsKept s
  | _ => exact ⟨rfl, .inl rfl⟩

theorem settingsKept_of_ran {m : Mnemonic} {r : Resolved} {s t : State} {e : Nat} (h : handlerOf m r s = .ran t e) :
    SettingsKept s t := by
  have hk := handlerOf_keepsSettings m r s
  rwa [h] at hk

/-! ## The stored B and the counter are not read -/

/-- `s` with another stored B and another cycle count. -/
def State.withUnread (s : State) (b : Bool) (k : Nat) : State := { s with b := b, cycles := k }

/-- The same for what a handler gives back. -/
def Handled.withUnread (b : Bool) (k : Nat) : Handled → Handled
  | .ran t e => .ran (t.withUnread b k) e
  | .refuse q => .refuse q

theorem branch_withUnread (taken : Bool) (r : Resolved) (s : State) (b : Bool) (k : Nat) :
    branch taken r (s.withUnread b k) = (branch taken r s).withUnread b k := by
  cases taken <;> rfl

theorem unstableStore_withUnread (index v : Byte) (r : Resolved) (s : State) (b : Bool) (k : Nat) :
    unstableStore index v r (s.withUnread b k) = (unstableStore index v r s).withUnread b k := by
  unfold unstableStore
  cases r.pcross <;> rfl

theorem handleArr_withUnread (r : Resolved) (s : State) (b : Bool) (k : Nat) :
    handleArr r (s.withUnread b k) = (handleArr r s).withUnread b k := by
  have hdec : (s.withUnread b k).decimal = s.decimal := rfl
  have hload : (s.withUnread b k).load r.src = s.load r.src := by cases r.src <;> rfl
  simp only [handleArr, hdec, hload]
  cases s.decimal <;> rfl

/-- The bytes pushed on entering a handler hold bit 4 as given, and not the stored B (R20). -/
theorem State.enterHandler_withUnread (s : State) (w : Word) (bit4 : Bool) (vector : Word) (b : Bool) (k : Nat) :
    (s.withUnread b k).enterHandler w bit4 vector = (s.enterHandler w bit4 vector).withUnread b k := rfl

theorem State.leaveHandler_withUnread (s : State) (b : Bool) (k : Nat) :
    (s.withUnread b k).leaveHandler = s.leaveHandler.withUnread b k := rfl

/-- The stored B that a handler leaves may be its own (R161); nothing else that it does depends on B or the counter. -/
theorem handlerOf_withUnread (m : Mnemonic) (r : Resolved) (s : State) (b : Bool) (k : Nat) :
    ∃ b', handlerOf m r (s.withUnread b k) = (handlerOf m r s).withUnread b' k := by
  cases m with
  | BPL | BMI | BVC | BVS | BCC | BCS | BNE | BEQ => exact ⟨b, branch_withUnread ..⟩
  | SHA | SHX | SHY => exact ⟨b, unstableStore_withUnread ..⟩
  | TAS => exact ⟨b, unstableStore_withUnread _ _ r { s with sp := s.a &&& s.x } b k⟩
  | ARR => exact ⟨b, handleArr_withUnread ..⟩
  | STA | STX | STY | SAX | INC | DEC | DCP | SLO | RLA | SRE | RRA | ISC | ASL | LSR | ROL | ROR =>
    obtain ⟨pc0, op, src, pcross⟩ := r
    cases src <;> exact ⟨b, rfl⟩
  | BRK =>
    have h := State.enterHandler_withUnread s (s.pc + 1) true irqVector b k
    exact ⟨true, congrArg (fun u : State => Handled.ran { u with b := true } 0) h⟩
  | RTI => exact ⟨b, congrArg (Handled.ran · 0) (State.leaveHandler_withUnread s b k)⟩
  | _ => exact ⟨b, rfl⟩

/-! ## The instructions -/

/-- What an executing instruction answers, from what its handler gives back (R91, R110). -/
def Handled.result (i : Instr) (s : State) : Handled → Result
  | .ran t e => .next (t.complete i.desc s.i (pageCrossed i s) e)
  | .refuse q => .refused q

theorem runInstr_of_executes {i : Instr} {s : State} (f : Handler) (h : i.opcode ∉ s.params.haltOpcodes)
    (hpol : i.desc.documented = true ∨ s.params.undocPolicy = .nmos) :
    runInstr i f s = (f ⟨s.pc, i.opcode, operandSource i s, pageCrossed i s⟩ (s.advance i)).result i s := by
  rcases runInstr_cases i f s with ⟨hop, -⟩ | ⟨-, hdoc, hrefuse, -⟩ | ⟨-, -, ⟨q, hr, hx⟩ | ⟨t, e, hr, hx⟩⟩
  · exact absurd hop h
  · simp [hdoc, hrefuse] at hpol
  · rw [hx, hr]
    rfl
  · rw [hx, hr]
    rfl

theorem runInstr_of_halt {i : Instr} {s : State} (f : Handler) (h : i.opcode ∈ s.params.haltOpcodes) :
    runInstr i f s = .next s.halt := by
  rw [runInstr, if_pos h]

theorem runInstr_of_policy {i : Instr} {s : State} (f : Handler) (h : i.opcode ∉ s.params.haltOpcodes)
    (hdoc : i.desc.documented = false) (hpol : s.params.undocPolicy = .refuse) :
    runInstr i f s = .refused (.undocumentedRefused i.opcode) := by
  rw [runInstr, if_neg h, if_pos (by simp [hdoc, hpol])]

/-- Two answers differ at most in the stored B and the counter, the counters as far apart as `c` and `k` (R20, R212).
-/
inductive AgreeButUnread (c k : Nat) : Result → Result → Prop
  | next {t : State} {b : Bool} {n : Nat} (h : n + c = t.cycles + k) :
    AgreeButUnread c k (.next t) (.next (t.withUnread b n))
  | refused (q : Refusal) : AgreeButUnread c k (.refused q) (.refused q)

/-- Completion adds a cost that depends on the instruction and its operand only (R92, R106). -/
theorem Handled.result_agree {i : Instr} {s : State} {h : Handled} (hkept : h.KeepsSettings (s.advance i))
    (b b' : Bool) (k : Nat) :
    AgreeButUnread s.cycles k (h.result i s) ((h.withUnread b' k).result i (s.withUnread b k)) := by
  cases h with
  | refuse q => exact .refused q
  | ran t e =>
    have hc : t.cycles = s.cycles := congrArg Settings.cycles hkept.settings
    refine .next (t := t.complete i.desc s.i (pageCrossed i s) e) (n := k + cost i.desc (pageCrossed i s) e) ?_
    rw [State.complete_cycles, hc]
    omega

theorem exec_agree (i : Instr) (hwf : i.wf = true) (s : State) (b : Bool) (k : Nat) :
    AgreeButUnread s.cycles k (exec i s) (exec i (s.withUnread b k)) := by
  rw [exec_eq i hwf, exec_eq i hwf]
  have hparams : (s.withUnread b k).params = s.params := rfl
  rcases runInstr_cases i (handlerOf i.mnemonic) s with ⟨hop, -⟩ | ⟨hop, hdoc, hpol, -⟩ | ⟨hop, hpol, -⟩
  · rw [runInstr_of_halt _ hop, runInstr_of_halt _ (hparams ▸ hop)]
    exact .next (t := s.halt) (Nat.add_comm k s.cycles)
  · rw [runInstr_of_policy _ hop hdoc hpol, runInstr_of_policy _ (hparams ▸ hop) hdoc (hparams ▸ hpol)]
    exact .refused _
  · rw [runInstr_of_executes _ hop hpol, runInstr_of_executes _ (hparams ▸ hop) (hparams ▸ hpol)]
    obtain ⟨b', hb⟩ := handlerOf_withUnread i.mnemonic ⟨s.pc, i.opcode, operandSource i s, pageCrossed i s⟩
      (s.advance i) b k
    have hkept := handlerOf_keepsSettings i.mnemonic ⟨s.pc, i.opcode, operandSource i s, pageCrossed i s⟩
      (s.advance i)
    have h := Handled.result_agree (i := i) (s := s) hkept b b' k
    rw [← hb] at h
    exact h

theorem step_of_halted {s : State} (h : s.halted = true) : step s = .next s := by
  rw [step, runStep, if_pos h]

theorem step_of_pending {s : State} {kind : InterruptKind} (h : s.halted = false)
    (hkind : s.pollInputs.pendingInterrupt = some kind) : step s = .next (s.pollInputs.interruptEntry kind) := by
  rcases step_cases s with ⟨hh, -⟩ | ⟨-, kind', hk, hx⟩ | ⟨⟨-, hk⟩, -⟩
  · exact absurd hh (by simp [h])
  · cases hk.symm.trans hkind
    exact hx
  · cases hk.symm.trans hkind

theorem interruptEntry_cycles (s : State) (kind : InterruptKind) :
    (s.interruptEntry kind).cycles = s.cycles + 7 := by
  simp [State.interruptEntry, State.enterHandler, State.pushWord]

theorem interruptEntry_withUnread (s : State) (kind : InterruptKind) (b : Bool) (k : Nat) :
    (s.withUnread b k).interruptEntry kind = (s.interruptEntry kind).withUnread b (k + 7) := by
  cases kind <;> rfl

theorem step_agree (s : State) (b : Bool) (k : Nat) :
    AgreeButUnread s.cycles k (step s) (step (s.withUnread b k)) := by
  rcases step_cases s with ⟨hhalted, hx⟩ | ⟨hhalted, kind, hkind, hx⟩ | ⟨hruns, hx⟩
  · rw [hx, step_of_halted (s := s.withUnread b k) hhalted]
    exact .next (Nat.add_comm k s.cycles)
  · rw [hx, step_of_pending (s := s.withUnread b k) hhalted hkind]
    rw [show (s.withUnread b k).pollInputs = s.pollInputs.withUnread b k from rfl, interruptEntry_withUnread]
    refine .next ?_
    rw [interruptEntry_cycles, State.pollInputs_cycles]
    omega
  · rw [hx, step_of_runsInstruction (s := s.withUnread b k) hruns]
    exact exec_agree s.fetch s.fetch_wf s.pollInputs b k

/-- Settles O59: what each step answers is the same function of the state without the stored B and the counter. -/
theorem breakAndCyclesAreUnobserved : Obligations.BreakAndCyclesAreUnobserved := by
  intro s b k
  have h := step_agree s b k
  unfold State.withUnread at h
  generalize step s = x, step { s with b := b, cycles := k } = y at h ⊢
  cases h with
  | next h => exact ⟨rfl, h⟩
  | refused q => rfl

end Sys2Proof.Machine
end

section
/-! PROOFS. What every step keeps and costs, and interrupts (spec/41_dispatch.md R87, R106, R108; spec/60_exceptions.md
R197 to R209; spec/10_state.md R22 to R28). -/

namespace Sys2Proof.Machine

/-! ## Costs -/

/-- Only a taken branch adds cycles of its own (R94, R148). -/
def Handled.ExtraFits (m : Mnemonic) : Handled → Prop
  | .ran _ e => e = 0 ∨ m ∈ branches ∧ e ≤ 2
  | .refuse _ => True

theorem branch_extraFits {m : Mnemonic} (hm : m ∈ branches) (taken : Bool) (r : Resolved) (s : State) :
    (branch taken r s).ExtraFits m := by
  cases taken with
  | false => exact .inl rfl
  | true =>
    refine .inr ⟨hm, ?_⟩
    split <;> decide

theorem unstableStore_extraFits (m : Mnemonic) (index v : Byte) (r : Resolved) (s : State) :
    (unstableStore index v r s).ExtraFits m := by
  unfold unstableStore
  cases r.pcross
  · exact .inl rfl
  · trivial

theorem handleArr_extraFits (r : Resolved) (s : State) : (handleArr r s).ExtraFits .ARR := by
  unfold handleArr
  cases s.decimal
  · exact .inl rfl
  · trivial

theorem handlerOf_extraFits (m : Mnemonic) (r : Resolved) (s : State) : (handlerOf m r s).ExtraFits m := by
  cases m with
  | BPL | BMI | BVC | BVS | BCC | BCS | BNE | BEQ => exact branch_extraFits (by decide) _ r s
  | SHA | SHX | SHY | TAS => exact unstableStore_extraFits ..
  | ARR => exact handleArr_extraFits r s
  | JAM => trivial
  | _ => exact .inl rfl

/-- R62, R63: the base counts leave room for the page-cross penalty, for every opcode but the JAM bytes. -/
theorem descriptor_cost_bounds (op : Byte) (h : (descriptor op).mnemonic ≠ .JAM) :
    2 ≤ (descriptor op).baseCycles ∧ (descriptor op).baseCycles ≤ 8 ∧
    ((descriptor op).pageCrossPlus1 = true → (descriptor op).baseCycles ≤ 7) := by
  revert op
  decide

theorem cost_bounds {i : Instr} {s t : State} {e : Nat} (hran : handlerOf i.mnemonic
    ⟨s.pc, i.opcode, operandSource i s, pageCrossed i s⟩ (s.advance i) = .ran t e) :
    2 ≤ cost i.desc (pageCrossed i s) e ∧ cost i.desc (pageCrossed i s) e ≤ 8 := by
  have hjam : i.mnemonic ≠ .JAM := fun hm => by
    rw [hm] at hran
    cases hran
  obtain ⟨hlow, hhigh, hplus⟩ : 2 ≤ i.desc.baseCycles ∧ i.desc.baseCycles ≤ 8 ∧
    (i.desc.pageCrossPlus1 = true → i.desc.baseCycles ≤ 7) := descriptor_cost_bounds i.opcode hjam
  have hextra := handlerOf_extraFits i.mnemonic ⟨s.pc, i.opcode, operandSource i s, pageCrossed i s⟩ (s.advance i)
  rw [hran] at hextra
  rw [show cost i.desc (pageCrossed i s) e = plainCost i s + e from rfl]
  rcases hextra with rfl | ⟨hm, he⟩
  · simp only [plainCost]
    split
    next hc =>
      have := hplus (Bool.and_eq_true_iff.mp hc).1
      omega
    · omega
  · rw [plainCost_of_branch hm]
    omega

/-! ## Every step -/

/-- A next state of `step`: the halted state itself, an interrupt entry, a halt, or an instruction that ran to its
completion (R87, R88, R91). -/
inductive StepTo (s : State) : State → Prop
  | halted (h : s.halted = true) : StepTo s s
  | entry (h : s.halted = false) (kind : InterruptKind) (hk : s.pollInputs.pendingInterrupt = some kind) :
    StepTo s (s.pollInputs.interruptEntry kind)
  | halts (h : RunsInstruction s) : StepTo s s.pollInputs.halt
  | ran (h : RunsInstruction s) (i : Instr) (u : State) (e : Nat) (hran : handlerOf i.mnemonic
      ⟨s.pc, i.opcode, operandSource i s.pollInputs, pageCrossed i s.pollInputs⟩ (s.pollInputs.advance i) = .ran u e) :
    StepTo s (u.complete i.desc s.i (pageCrossed i s.pollInputs) e)

theorem stepTo_of_step {s t : State} (h : step s = .next t) : StepTo s t := by
  rcases step_cases s with ⟨hh, hx⟩ | ⟨hh, kind, hk, hx⟩ | ⟨hruns, hx⟩
  · cases hx.symm.trans h
    exact .halted hh
  · cases hx.symm.trans h
    exact .entry hh kind hk
  · rcases exec_next_cases (State.fetch_wf _) (hx.symm.trans h) with rfl | ⟨u, e, hran, rfl⟩
    · exact .halts hruns
    · exact .ran hruns _ u e hran

theorem interruptEntry_keeps (s : State) (kind : InterruptKind) :
    (s.interruptEntry kind).params = s.params ∧ (s.interruptEntry kind).irqIn = s.irqIn ∧
    (s.interruptEntry kind).nmiIn = s.nmiIn ∧ (s.interruptEntry kind).halted = s.halted ∧
    (s.interruptEntry kind).nmiPrev = s.nmiPrev ∧ (s.interruptEntry kind).draws = s.draws := by
  simp [State.interruptEntry, State.enterHandler, State.pushWord]

theorem interruptEntry_nmiPending (s : State) (kind : InterruptKind) :
    (s.interruptEntry kind).nmiPending = (decide (kind = .irq) && s.nmiPending) := by
  cases kind <;> simp [State.interruptEntry, State.enterHandler, State.pushWord]

theorem interruptEntry_iPoll (s : State) (kind : InterruptKind) : (s.interruptEntry kind).iPoll = true := rfl

/-- Settles O57: no handler writes a setting, and an entry counts its cycles only. -/
theorem stepKeepsSettings : Obligations.StepKeepsSettings := by
  intro s t h
  cases stepTo_of_step h with
  | halted => simp
  | entry hh kind hk =>
    obtain ⟨hp, hirq, hnmi, hhalt, hprev, hdraws⟩ := interruptEntry_keeps s.pollInputs kind
    refine ⟨hp, hirq, hnmi, fun hh => hhalt.trans hh, ?_, hdraws.ge⟩
    rw [interruptEntry_cycles]
    exact Nat.le_add_right s.cycles 7
  | halts => exact ⟨rfl, rfl, rfl, fun _ => rfl, Nat.le_refl s.cycles, Nat.le_refl s.draws⟩
  | ran hruns i u e hran =>
    have hk := settingsKept_of_ran hran
    obtain ⟨hp, hirq, hnmi, hhalt, -, -, hcycles⟩ := Settings.mk.inj hk.settings
    refine ⟨hp, hirq, hnmi, fun hh => hhalt.trans hh, ?_, hk.draws_le⟩
    rw [State.complete_cycles, hcycles]
    exact Nat.le_add_right s.cycles _

/-! ## What a step returns to the host -/

theorem stepReturn_of_halted {s t : State} (h : step s = .next t) (hh : s.halted = true) :
    stepReturn s = (t.cycles - s.cycles, .alreadyHalted) := by
  simp [stepReturn, h, hh]

theorem stepReturn_of_pending {s t : State} {kind : InterruptKind} (h : step s = .next t) (hh : s.halted = false)
    (hk : s.pollInputs.pendingInterrupt = some kind) : stepReturn s = (t.cycles - s.cycles, .interrupted kind) := by
  simp [stepReturn, h, hh, hk]

theorem stepReturn_of_runsInstruction {s t : State} (h : step s = .next t) (hruns : RunsInstruction s) :
    stepReturn s = (t.cycles - s.cycles, if t.halted then .halted else .ran) := by
  obtain ⟨hh, hk⟩ := hruns
  simp [stepReturn, h, hh, hk]

/-- Settles O58: the counter rises by 0, by 7, or by the cost of the instruction, which the table bounds. -/
theorem stepCosts : Obligations.StepCosts := by
  intro s t h
  cases stepTo_of_step h with
  | halted hh =>
    rw [stepReturn_of_halted h hh]
    exact ⟨by simp, .inl ⟨rfl, hh, by simp⟩⟩
  | entry hh kind hk =>
    rw [stepReturn_of_pending h hh hk, interruptEntry_cycles, State.pollInputs_cycles, Nat.add_sub_cancel_left]
    exact ⟨rfl, .inr (.inr (.inl ⟨⟨kind, rfl, hk⟩, rfl⟩))⟩
  | halts hruns =>
    rw [stepReturn_of_runsInstruction h hruns]
    exact ⟨(Nat.add_sub_cancel' (Nat.le_refl s.cycles)).symm, .inr (.inl ⟨rfl, hruns.1, rfl, Nat.sub_self s.cycles⟩)⟩
  | ran hruns i u e hran =>
    obtain ⟨-, -, -, hhalt, -, -, hcycles⟩ := Settings.mk.inj (settingsKept_of_ran hran).settings
    have hnot : u.halted = false := hhalt.trans hruns.1
    have hsum : (u.complete i.desc s.i (pageCrossed i s.pollInputs) e).cycles =
        s.cycles + cost i.desc (pageCrossed i s.pollInputs) e := by
      rw [State.complete_cycles, hcycles]
      rfl
    rw [stepReturn_of_runsInstruction h hruns, hsum, Nat.add_sub_cancel_left, State.complete_halted, hnot]
    exact ⟨rfl, .inr (.inr (.inr ⟨rfl, hruns, rfl, cost_bounds (s := s.pollInputs) hran⟩))⟩

/-! ## Runs -/

/-- The machine that the statements about runs speak of. -/
abbrev machine : Host.Core :=
  { State := State, Fault := Fault, Refusal := Refusal, step := step, reset := State.reset }

theorem run_invariant {P : State → Prop} (hstep : ∀ s t, P s → step s = .next t → P t) {s t : State} {k : Nat}
    (hs : P s) (h : Host.Core.run machine k s = .next t) : P t := by
  induction k generalizing s with
  | zero =>
    cases h
    exact hs
  | succ k ih =>
    unfold Host.Core.run at h
    split at h
    next u hu => exact ih (hstep s u hs hu) h
    · cases h
    · cases h

/-- Settles O40: a step from a halted state answers that state, so by induction any number of steps does. -/
theorem haltedIsFinal : Obligations.HaltedIsFinal := by
  intro s k hh
  induction k with
  | zero => rfl
  | succ k ih =>
    unfold Host.Core.run
    simp only [step_of_halted hh]
    exact ih

/-! ## The interrupt check -/

theorem State.sampled_iff (s : State) (level : Bool) :
    s.sampled level = true ↔ s.params.interruptInputs = .driven ∧ level = true := by
  simp [State.sampled]

/-- Settles O47: the check is two latch writes and a choice in order of priority. -/
theorem interruptCheck : Obligations.InterruptCheck := by
  intro s driven nmi irq
  have hnmi : s.pollInputs.nmiPending = true ↔ nmi := by
    simp [State.sampled_iff, nmi, driven, and_assoc]
  have hirq : (s.sampled s.irqIn && !s.iPoll) = true ↔ irq := by
    simp [State.sampled_iff, irq, driven, and_assoc]
  constructor
  · have hpending : s.pollInputs.nmiPending = decide nmi := by rwa [Bool.eq_iff_iff, decide_eq_true_iff]
    have hprev : s.pollInputs.nmiPrev = decide (driven ∧ s.nmiIn = true) := by
      rw [Bool.eq_iff_iff, decide_eq_true_iff]
      exact s.sampled_iff s.nmiIn
    rw [← hpending, ← hprev]
    rfl
  · exact if_congr hnmi rfl (if_congr hirq rfl rfl)

/-! ## A held NMI -/

/-- Nothing is latched, and the driven NMI input is as active as it was at the last boundary (R203). -/
def NmiHeld (s : State) : Prop :=
  s.nmiPending = false ∧ s.nmiPrev = true ∧ s.nmiIn = true ∧ s.params.interruptInputs = .driven

theorem NmiHeld.pollInputs {s : State} (h : NmiHeld s) : NmiHeld s.pollInputs := by
  obtain ⟨hpending, hprev, hin, hdriven⟩ := h
  exact ⟨by simp [hpending, hprev], by simp [State.sampled, hin, hdriven], hin, hdriven⟩

theorem NmiHeld.pendingInterrupt_ne {s : State} (h : NmiHeld s) : s.pollInputs.pendingInterrupt ≠ some .nmi := by
  obtain ⟨hpending, -⟩ := h.pollInputs
  unfold State.pendingInterrupt
  rw [hpending]
  split
  next hf => cases hf
  · split <;> simp

theorem NmiHeld.step {s t : State} (h : NmiHeld s) (hstep : step s = .next t) : NmiHeld t := by
  obtain ⟨hpending, hprev, hin, hdriven⟩ := h.pollInputs
  cases stepTo_of_step hstep with
  | halted => exact h
  | entry hh kind hk =>
    obtain ⟨hp, -, hnmi, -, hprev', -⟩ := interruptEntry_keeps s.pollInputs kind
    have hpend' := interruptEntry_nmiPending s.pollInputs kind
    generalize s.pollInputs.interruptEntry kind = t at hp hnmi hprev' hpend' ⊢
    exact ⟨by rw [hpend', hpending, Bool.and_false], hprev'.trans hprev, hnmi.trans hin, hp ▸ hdriven⟩
  | halts => exact ⟨hpending, hprev, hin, hdriven⟩
  | ran hruns i u e hran =>
    obtain ⟨hp, -, hnmi, -, hpend', hprev', -⟩ := Settings.mk.inj (settingsKept_of_ran hran).settings
    exact ⟨hpend'.trans hpending, hprev'.trans hprev, hnmi.trans hin, hp ▸ hdriven⟩

/-- With the edge used up and IRQ masked, a boundary answers nothing (R203, R205). -/
theorem pendingInterrupt_eq_none {t : State} (hpending : t.nmiPending = false) (hprev : t.nmiPrev = t.sampled t.nmiIn)
    (hpoll : t.iPoll = true) : t.pollInputs.pendingInterrupt = none := by
  simp [State.pendingInterrupt, hpending, hprev, hpoll]

/-- Settles O49: the entry uses the edge up and masks IRQ; a held level is no edge, so no later step latches one. -/
theorem heldNmiIsTakenOnce : Obligations.HeldNmiIsTakenOnce := by
  refine ⟨fun s t hh hk hstep => ?_, fun s t k hs hrun => ?_⟩
  · cases (step_of_pending hh hk).symm.trans hstep
    have hpending := interruptEntry_nmiPending s.pollInputs .nmi
    have hpoll := interruptEntry_iPoll s.pollInputs .nmi
    obtain ⟨hp, -, hnmi, -, hprev, -⟩ := interruptEntry_keeps s.pollInputs .nmi
    generalize s.pollInputs.interruptEntry .nmi = t at hpending hpoll hp hnmi hprev ⊢
    have hsampled : t.nmiPrev = t.sampled t.nmiIn := by
      rw [hprev, State.sampled, hp, hnmi]
      rfl
    refine ⟨pendingInterrupt_eq_none hpending hsampled hpoll, fun hin hdriven => ?_⟩
    exact ⟨hpending, by rw [hprev]; simp [State.sampled, hin, hdriven], hnmi.trans hin, hp ▸ hdriven⟩
  · have ht : NmiHeld t := run_invariant (fun _ _ => NmiHeld.step) hs hrun
    exact ⟨ht, ht.pendingInterrupt_ne⟩

end Sys2Proof.Machine
end

section
/-! PROOFS. The stack as operations see it: the status byte, pull after push, and the pushes and pulls of a call, a
return, a handler's entry and its end (spec/20_memory.md R40 to R44; spec/43_stack.md R126, R128;
spec/46_control_flow.md R157 to R161). -/

namespace Sys2Proof.Machine

/-! ## The status byte -/

theorem toNat_status_bits : ∀ n v bit4 d i z c : Bool,
    (BitVec.ofBool n ++ BitVec.ofBool v ++ 1#1 ++ BitVec.ofBool bit4 ++ BitVec.ofBool d ++ BitVec.ofBool i ++
      BitVec.ofBool z ++ BitVec.ofBool c).toNat =
    n.toNat * 128 + v.toNat * 64 + 32 + bit4.toNat * 16 + d.toNat * 8 + i.toNat * 4 + z.toNat * 2 + c.toNat := by
  decide

theorem State.toNat_statusByte (s : State) (bit4 : Bool) : (s.statusByte bit4).toNat =
    s.n.toNat * 128 + s.v.toNat * 64 + 32 + bit4.toNat * 16 + s.d.toNat * 8 + s.i.toNat * 4 + s.z.toNat * 2 +
      s.c.toNat :=
  toNat_status_bits ..

/-- Loading a pushed status gives its six flags back (R128, R160). -/
theorem status_bits_getLsbD : ∀ n v bit4 d i z c : Bool,
    let p : Byte := BitVec.ofBool n ++ BitVec.ofBool v ++ 1#1 ++ BitVec.ofBool bit4 ++ BitVec.ofBool d ++
      BitVec.ofBool i ++ BitVec.ofBool z ++ BitVec.ofBool c
    p.getLsbD 7 = n ∧ p.getLsbD 6 = v ∧ p.getLsbD 3 = d ∧ p.getLsbD 2 = i ∧ p.getLsbD 1 = z ∧ p.getLsbD 0 = c := by
  decide

theorem State.statusByte_getLsbD (s : State) (bit4 : Bool) :
    (s.statusByte bit4).getLsbD 7 = s.n ∧ (s.statusByte bit4).getLsbD 6 = s.v ∧ (s.statusByte bit4).getLsbD 3 = s.d ∧
    (s.statusByte bit4).getLsbD 2 = s.i ∧ (s.statusByte bit4).getLsbD 1 = s.z ∧ (s.statusByte bit4).getLsbD 0 = s.c :=
  status_bits_getLsbD ..

/-! ## Push and pull -/

theorem stackAddress_eq (sp : Byte) : stackAddress sp = 0x0100 + zext16 sp := by
  apply BitVec.eq_of_toNat_eq
  have := sp.isLt
  rw [toNat_stackAddress, BitVec.toNat_add, Laws.toNat_zext16, Nat.mod_eq_of_lt]
  · rfl
  · show 256 + sp.toNat < 65536
    omega

theorem stackAddress_injective {p q : Byte} (h : stackAddress p = stackAddress q) : p = q := by
  have := congrArg BitVec.toNat h
  rw [toNat_stackAddress, toNat_stackAddress] at this
  exact BitVec.eq_of_toNat_eq (by omega)

/-- Under either convention, a pull reads where the push that left SP so has written (R42, R43). -/
theorem State.pullAddress_eq_pushAddress {s u : State} (hconv : u.params.stackConvention = s.params.stackConvention)
    (hsp : u.sp = s.sp - 1) : u.pullAddress = s.pushAddress := by
  cases hc : s.params.stackConvention with
  | doc => rw [State.pullAddress_doc (hconv.trans hc), State.pushAddress_doc hc, hsp]
  | nmos => rw [State.pullAddress_nmos (hconv.trans hc), State.pushAddress_nmos hc, hsp, BitVec.sub_add_cancel]

theorem State.pulled_push {s : State} (h : s.mem.wf) (v : Byte) : (s.push v).pulled = v := by
  rw [State.pulled, State.pullAddress_eq_pushAddress (s := s) (u := s.push v) rfl rfl, State.read_pushAddress_push h]

/-- Settles O16: each convention's order is its address for the same write, and a pull reads where the push wrote. -/
theorem pushAndPull : Obligations.PushAndPull := by
  intro s v
  refine ⟨fun hc => ?_, fun hc => ?_, rfl, fun h => ⟨State.pulled_push h v, BitVec.sub_add_cancel s.sp 1⟩⟩
  · rw [State.push, State.pushAddress_doc hc, State.pulled, State.pullAddress_doc hc, stackAddress_eq, stackAddress_eq]
    exact ⟨rfl, rfl⟩
  · rw [State.push, State.pushAddress_nmos hc, State.pulled, State.pullAddress_nmos hc, stackAddress_eq,
      stackAddress_eq]
    exact ⟨rfl, rfl⟩

/-! ## Two and three pushes -/

theorem State.pushAddress_ne {s u : State} (hconv : u.params.stackConvention = s.params.stackConvention)
    (hsp : u.sp ≠ s.sp) : u.pushAddress ≠ s.pushAddress := by
  intro h
  cases hc : s.params.stackConvention with
  | doc =>
    rw [State.pushAddress_doc (hconv.trans hc), State.pushAddress_doc hc] at h
    exact hsp (sub_left_injective (stackAddress_injective h))
  | nmos =>
    rw [State.pushAddress_nmos (hconv.trans hc), State.pushAddress_nmos hc] at h
    exact hsp (stackAddress_injective h)

theorem State.pushAddress_push_ne (s : State) (v : Byte) : (s.push v).pushAddress ≠ s.pushAddress :=
  State.pushAddress_ne rfl (by rw [State.push_sp]; bv_omega)

theorem State.pushAddress_push_push_ne (s : State) (v q : Byte) : ((s.push v).push q).pushAddress ≠ s.pushAddress :=
  State.pushAddress_ne rfl (by rw [State.push_sp, State.push_sp]; bv_omega)

theorem State.read_pushWord {s : State} (h : s.mem.wf) (w : Word) :
    (s.pushWord w).read s.pushAddress = highByte w ∧ (s.pushWord w).read (s.push 0).pushAddress = lowByte w := by
  have h1 : (s.push (highByte w)).mem.wf := State.wf_push h _
  refine ⟨?_, State.read_pushAddress_push h1 (lowByte w)⟩
  rw [State.pushWord, State.read_push_of_ne h1 _ (s.pushAddress_push_ne _).symm, State.read_pushAddress_push h]

theorem State.read_enterHandler {s : State} (h : s.mem.wf) (w : Word) (bit4 : Bool) (vector : Word) :
    (s.enterHandler w bit4 vector).read s.pushAddress = highByte w ∧
    (s.enterHandler w bit4 vector).read (s.push 0).pushAddress = lowByte w ∧
    (s.enterHandler w bit4 vector).read ((s.push 0).push 0).pushAddress = s.statusByte bit4 := by
  have h2 : (s.pushWord w).mem.wf := State.wf_push (State.wf_push h _) _
  obtain ⟨hhigh, hlow⟩ := State.read_pushWord h w
  have hread (a : Word) :
      (s.enterHandler w bit4 vector).read a = ((s.pushWord w).push (s.statusByte bit4)).read a := rfl
  refine ⟨?_, ?_, ?_⟩
  · rw [hread, State.read_push_of_ne h2 _ (s.pushAddress_push_push_ne 0 0).symm, hhigh]
  · rw [hread, State.read_push_of_ne h2 _ ((s.push 0).pushAddress_push_ne 0).symm, hlow]
  · rw [hread]
    exact State.read_pushAddress_push h2 (s.statusByte bit4)

/-! ## The fields after the pushes and pulls -/

/-- Memory after the three pushes of an entry (R161, R198). -/
def State.entryMemory (s : State) (w : Word) (status : Byte) : Memory :=
  ((s.mem.write s.pushAddress.toNat (highByte w)).write (s.push 0).pushAddress.toNat (lowByte w)).write
    ((s.push 0).push 0).pushAddress.toNat status

theorem State.pushWord_eq (s : State) (w : Word) : s.pushWord w = { s with
    sp := s.sp - 2
    mem := (s.mem.write s.pushAddress.toNat (highByte w)).write (s.push 0).pushAddress.toNat (lowByte w) } := by
  rw [show s.sp - 2 = s.sp - 1 - 1 from (sub_sub s.sp 1 1).symm]
  rfl

theorem State.enterHandler_eq (s : State) (w : Word) (bit4 : Bool) (vector : Word) :
    s.enterHandler w bit4 vector = { s with
      sp := s.sp - 3
      mem := s.entryMemory w (s.statusByte bit4)
      i := true
      pc := joinBytes ((s.entryMemory w (s.statusByte bit4)).read (vector + 1).toNat)
        ((s.entryMemory w (s.statusByte bit4)).read vector.toNat) } := by
  have hsp : s.sp - 1 - 1 - 1 = s.sp - 3 := by rw [sub_sub, sub_sub]; rfl
  simpa [State.enterHandler, State.pushWord, State.entryMemory, State.readWord, State.read] using ⟨hsp, rfl, rfl⟩

theorem State.leaveHandler_eq (s : State) : s.leaveHandler = { s with
    sp := s.sp + 3
    n := s.pulled.getLsbD 7, v := s.pulled.getLsbD 6, d := s.pulled.getLsbD 3, i := s.pulled.getLsbD 2
    z := s.pulled.getLsbD 1, c := s.pulled.getLsbD 0
    pc := joinBytes (s.read s.afterPull.afterPull.pullAddress) (s.read s.afterPull.pullAddress) } := by
  have hsp : s.sp + 1 + 1 + 1 = s.sp + 3 := by rw [add_assoc, add_assoc]; rfl
  simpa [State.leaveHandler, State.afterPullWord, State.pulledWord] using ⟨hsp, rfl⟩

theorem State.afterPullWord_eq (s : State) : s.afterPullWord = { s with sp := s.sp + 2 } := by
  rw [show s.sp + 2 = s.sp + 1 + 1 from (add_assoc s.sp 1 1).symm]
  rfl

/-! ## PHP, PLP and TXS -/

/-- Settles O22: one push, one pull and one copy; PLP's polling latch is the one that the rule delays (R206). -/
theorem statusOnTheStackAndTxs : Obligations.StatusOnTheStackAndTxs := fun s =>
  ⟨fun h => ⟨s.statusByte true, s.toNat_statusByte true,
      exec_completes_plain (t := (s.advance .php).push (s.statusByte true)) h rfl rfl rfl rfl rfl⟩,
    fun h => exec_completes (t := (s.advance .plp).afterPull.loadStatus s.pulled) (e := 0) h rfl rfl,
    fun h => exec_completes_plain (t := { s.advance .txs with sp := s.x }) h rfl rfl rfl rfl rfl⟩

/-! ## Jumps and subroutines -/

theorem mnemonic_of_opcode {i : Instr} {m : Mnemonic} (op : Byte) (hop : i.opcode = op)
    (hm : (descriptor op).mnemonic = m) : i.mnemonic = m := by
  rw [Instr.mnemonic, Instr.desc, hop, hm]

theorem length_of_opcode {i : Instr} {n : Nat} (op : Byte) (hop : i.opcode = op) (hn : (descriptor op).length = n) :
    i.length = n := by
  rw [Instr.length, Instr.desc, hop, hn]

/-- The return address that JSR pushes is that of its own last byte (R158). -/
theorem nextPc_jsr_sub_one (w : Word) (s : State) : (s.advance (.jsr w)).pc - 1 = s.pc + 2 := by
  rw [State.advance_pc, length_of_opcode 0x20 rfl rfl, add_sub_assoc]
  rfl

/-- Settles O32: each handler sets PC, after JSR's two pushes and RTS's two pulls. -/
theorem jumpsAndSubroutines : Obligations.JumpsAndSubroutines := by
  intro s w
  refine ⟨fun h => ?jmpAbs, fun h => ?jmpInd, fun h => ?jsr, fun h => ?rts⟩
  case jmpAbs =>
    exact exec_completes_plain (t := { s.advance (.jmpAbs w) with pc := w }) h (mnemonic_of_opcode 0x4C rfl rfl)
      rfl rfl rfl rfl
  case jmpInd =>
    exact exec_completes_plain (t := { s.advance (.jmpInd w) with pc := s.jumpPointer w }) h
      (mnemonic_of_opcode 0x6C rfl rfl) rfl rfl rfl rfl
  case jsr =>
    have hx := exec_completes_plain (t := { (s.advance (.jsr w)).pushWord ((s.advance (.jsr w)).pc - 1) with pc := w })
      h (mnemonic_of_opcode 0x20 rfl rfl) rfl rfl rfl rfl
    rw [nextPc_jsr_sub_one, State.pushWord_eq] at hx
    exact hx
  case rts =>
    have hx := exec_completes_plain (t := { (s.advance .rts).afterPullWord with pc := s.pulledWord + 1 })
      h rfl rfl rfl rfl rfl
    rw [State.afterPullWord_eq] at hx
    exact hx

/-- Settles O33: the two pulls read the two addresses that JSR pushed to, in the opposite order. -/
theorem returnAfterCall : Obligations.ReturnAfterCall := by
  intro s t u w hjsr hs ht hrts hsp hconv hread
  obtain ⟨-, -, hcall, -⟩ := jumpsAndSubroutines s w
  obtain ⟨-, -, -, hret⟩ := jumpsAndSubroutines u w
  have hpushed : t.sp = s.sp - 2 ∧ t.mem = (s.pushWord (s.pc + 2)).mem := by
    cases ht.symm.trans (hcall hjsr)
    exact ⟨rfl, by rw [State.pushWord_eq]⟩
  obtain ⟨htsp, htmem⟩ := hpushed
  obtain ⟨hhigh, hlow⟩ := State.read_pushWord hs (s.pc + 2)
  have hsp1 : u.sp = s.sp - 1 - 1 := by rw [hsp, htsp, sub_sub]; rfl
  have hpull1 : u.pullAddress = (s.push 0).pushAddress := State.pullAddress_eq_pushAddress hconv hsp1
  have hpull2 : u.afterPull.pullAddress = s.pushAddress :=
    State.pullAddress_eq_pushAddress hconv (by rw [State.afterPull_sp, hsp1, BitVec.sub_add_cancel])
  have hw : joinBytes (u.read u.afterPull.pullAddress) (u.read u.pullAddress) = s.pc + 2 := by
    rw [hpull1, hpull2, hread _ (by simp), hread _ (by simp), State.read, State.read, htmem]
    exact (congrArg₂ joinBytes hhigh hlow).trans (Laws.joinBytes_high_low _)
  refine ⟨_, hret hrts, ?_, ?_, rfl⟩
  · show joinBytes (u.read u.afterPull.pullAddress) (u.read u.pullAddress) + 1 = s.pc + 3
    rw [hw, add_assoc]
    rfl
  · show u.sp + 2 = s.sp
    rw [hsp, htsp, BitVec.sub_add_cancel]

/-! ## BRK, RTI and the interrupt entries -/

theorem exec_brk {s : State} (h : Executes .brk s) : exec .brk s = .next { s with
    sp := s.sp - 3, mem := s.entryMemory (s.pc + 2) (s.statusByte true), i := true, b := true, iPoll := true
    pc := joinBytes ((s.entryMemory (s.pc + 2) (s.statusByte true)).read 0xFFFF)
      ((s.entryMemory (s.pc + 2) (s.statusByte true)).read 0xFFFE)
    cycles := s.cycles + 7 } := by
  have hx := exec_completes
    (t := { (s.advance .brk).enterHandler ((s.advance .brk).pc + 1) true irqVector with b := true }) (e := 0) h rfl rfl
  rw [show (s.advance .brk).pc + 1 = s.pc + 2 from add_assoc s.pc 1 1, State.enterHandler_eq] at hx
  exact hx

/-- Settles O34: BRK is one entry at the IRQ vector, with the stored B set and I polled as set. -/
theorem brkEntersItsHandler : Obligations.BrkEntersItsHandler := fun s h =>
  ⟨s.statusByte true, s.toNat_statusByte true, exec_brk h⟩

/-- Settles O35: RTI is one return from a handler, and polls the I that it pulled. -/
theorem rtiRestores : Obligations.RtiRestores := by
  intro s h
  have hx := exec_completes (t := (s.advance .rti).leaveHandler) (e := 0) h rfl rfl
  rw [State.leaveHandler_eq] at hx
  exact hx

/-- Settles O36: the three pulls read the three addresses that BRK pushed to, in the opposite order. -/
theorem returnAfterBreak : Obligations.ReturnAfterBreak := by
  intro s t u hbrk hs ht hrti hsp hconv hread
  have hpushed : t.sp = s.sp - 3 ∧ t.mem = (s.enterHandler (s.pc + 2) true irqVector).mem := by
    cases ht.symm.trans (exec_brk hbrk)
    exact ⟨rfl, by rw [State.enterHandler_eq]⟩
  obtain ⟨htsp, htmem⟩ := hpushed
  obtain ⟨hhigh, hlow, hstatus⟩ := State.read_enterHandler hs (s.pc + 2) true irqVector
  have hsp1 : u.sp = s.sp - 1 - 1 - 1 := by rw [hsp, htsp, sub_sub, sub_sub]; rfl
  have hsp2 : u.afterPull.sp = s.sp - 1 - 1 := by rw [State.afterPull_sp, hsp1, BitVec.sub_add_cancel]
  have hsp3 : u.afterPull.afterPull.sp = s.sp - 1 := by rw [State.afterPull_sp, hsp2, BitVec.sub_add_cancel]
  have hpull1 : u.pullAddress = ((s.push 0).push 0).pushAddress := State.pullAddress_eq_pushAddress hconv hsp1
  have hpull2 : u.afterPull.pullAddress = (s.push 0).pushAddress := State.pullAddress_eq_pushAddress hconv hsp2
  have hpull3 : u.afterPull.afterPull.pullAddress = s.pushAddress := State.pullAddress_eq_pushAddress hconv hsp3
  have hp : u.pulled = s.statusByte true := by
    rw [State.pulled, hpull1, hread _ (by simp), State.read, htmem]
    exact hstatus
  have hw : joinBytes (u.read u.afterPull.afterPull.pullAddress) (u.read u.afterPull.pullAddress) = s.pc + 2 := by
    rw [hpull2, hpull3, hread _ (by simp), hread _ (by simp), State.read, State.read, htmem]
    exact (congrArg₂ joinBytes hhigh hlow).trans (Laws.joinBytes_high_low _)
  have hbits := s.statusByte_getLsbD true
  rw [← hp] at hbits
  obtain ⟨hn, hv, hd, hi, hz, hc⟩ := hbits
  refine ⟨_, rtiRestores u hrti, hw, ?_, hn, hv, hd, hi, hz, hc, rfl⟩
  show u.sp + 3 = s.sp
  rw [hsp, htsp, BitVec.sub_add_cancel]

/-- Settles O48: an entry at the kind's vector from the polled state, with bit 4 of the pushed status clear. -/
theorem interruptEntrySequence : Obligations.InterruptEntrySequence := by
  intro s kind hh hk
  refine ⟨s.statusByte false, s.toNat_statusByte false, ?_⟩
  rw [step_of_pending hh hk]
  simp only [State.interruptEntry, State.enterHandler_eq]
  cases kind <;> rfl

end Sys2Proof.Machine
end

section
/-! PROOFS. Addition and subtraction, binary and decimal, BIT, flag instructions and NOP (spec/41_dispatch.md R99 to
R105; spec/44_arithmetic_logic.md R129, R130, R137; spec/47_flags_misc.md R162 to R169). -/

namespace Sys2Proof.Machine

/-! ## The adders -/

/-- Which adder an addition of `m` to A runs, with its result (R100, R101). -/
def State.adcResult (s : State) (m : Byte) (c : Bool) : AluResult :=
  if s.d = true ∧ s.params.decimalMode = .nmos then adcDec s.a m c else addBin s.a m c

/-- Which adder a subtraction of `m` from A runs, with its result (R102, R103). -/
def State.sbcResult (s : State) (m : Byte) (c : Bool) : AluResult :=
  if s.d = true ∧ s.params.decimalMode = .nmos then sbcDec s.a m c else addBin s.a (~~~m) c

theorem State.adcOp_eq (s : State) (m : Byte) : s.adcOp m = s.setAlu (s.adcResult m s.c) :=
  congrArg s.setAlu (if_congr s.decimal_iff rfl rfl)

theorem State.sbcOp_eq (s : State) (m : Byte) : s.sbcOp m = s.setAlu (s.sbcResult m s.c) :=
  congrArg s.setAlu (if_congr s.decimal_iff rfl rfl)

/-- Settles O24: each handler is one adder operation on the operand, and D selects the adder. -/
theorem addAndSubtract : Obligations.AddAndSubtract := by
  intro i s h
  refine ⟨fun hm => ?adc, fun hm => ?sbc⟩
  case adc =>
    have hx := exec_completes_plain (t := (s.advance i).adcOp (operandValue i s)) h hm rfl rfl rfl rfl
    rw [State.adcOp_eq] at hx
    exact hx
  case sbc =>
    have hx := exec_completes_plain (t := (s.advance i).sbcOp (operandValue i s)) h hm rfl rfl rfl rfl
    rw [State.sbcOp_eq] at hx
    exact hx

theorem msb_eq_decide (b : Byte) : b.getLsbD 7 = decide (128 ≤ b.toNat) := by
  revert b
  decide

theorem beq_zero_eq_decide (b : Byte) : (b == 0) = decide (b.toNat = 0) := by
  revert b
  decide

theorem and_0x80_ne_zero (b : Byte) : (b &&& 0x80 != 0) = b.getLsbD 7 := by
  revert b
  decide

/-- The sign bits of operands and result decide whether the signed sum fits its byte (R99). -/
theorem addBin_v (a m : Byte) (c : Bool) :
    (addBin a m c).v = decide (a.toInt + m.toInt + c.toNat < -128 ∨ 127 < a.toInt + m.toInt + c.toNat) := by
  have ha := a.isLt
  have hm := m.isLt
  have hc := c.toNat_le
  rw [addBin, and_0x80_ne_zero, BitVec.getLsbD_and, BitVec.getLsbD_xor, BitVec.getLsbD_xor]
  simp only [msb_eq_decide, BitVec.toNat_ofNat, BitVec.toInt_eq_toNat_cond]
  rw [Bool.eq_iff_iff]
  simp only [Bool.and_eq_true, bne_iff_ne, ne_eq, decide_eq_decide, decide_eq_true_eq]
  split <;> split <;> omega

/-- Settles O23: the carry and the value are the sum's quotient and remainder by 256, and V is as `addBin_v` says. -/
theorem binaryAdder : Obligations.BinaryAdder := fun a m c =>
  ⟨BitVec.toNat_ofNat .., rfl, addBin_v a m c, msb_eq_decide _, beq_zero_eq_decide _⟩

/-! ## The decimal adders on all operands -/

theorem adcDec_v (a m : Byte) (s : Nat) :
    (~~~(a ^^^ m) &&& (a ^^^ BitVec.ofNat 8 s) &&& 0x80 != 0) =
      (a.getLsbD 7 == m.getLsbD 7 && a.getLsbD 7 != decide (128 ≤ s % 256)) := by
  have hs : (BitVec.ofNat 8 s).getLsbD 7 = decide (128 ≤ s % 256) := by rw [msb_eq_decide, BitVec.toNat_ofNat]
  rw [and_0x80_ne_zero, BitVec.getLsbD_and, BitVec.getLsbD_not, BitVec.getLsbD_xor, BitVec.getLsbD_xor, hs]
  cases a.getLsbD 7 <;> cases m.getLsbD 7 <;> simp

theorem testBit_seven (s : Nat) : s.testBit 7 = decide (128 ≤ s % 256) := by
  have h := msb_eq_decide (BitVec.ofNat 8 s)
  rw [BitVec.toNat_ofNat, BitVec.getLsbD_ofNat] at h
  simpa using h

theorem toNat_ofInt8 (k : Int) : ((BitVec.ofInt 8 k).toNat : Int) = k % 256 := by
  rw [BitVec.toNat_ofInt]
  omega

/-! ## The decimal adders on two-digit operands -/

/-- A number below 100 coded as two decimal digits. -/
def bcd (k : Nat) : Byte := BitVec.ofNat 8 (k / 10 * 16 + k % 10)

theorem toNat_bcd {k : Nat} (h : k < 100) : (bcd k).toNat = k / 10 * 16 + k % 10 := by
  rw [bcd, BitVec.toNat_ofNat]
  omega

theorem bcd_digits {k : Nat} (h : k < 100) : (bcd k).toNat / 16 = k / 10 ∧ (bcd k).toNat % 16 = k % 10 := by
  rw [toNat_bcd h]
  omega

theorem toNat_bcd_of_digits {p q : Nat} (hp : p < 10) (hq : q < 10) : (bcd (10 * p + q)).toNat = 16 * p + q := by
  rw [toNat_bcd (by omega)]
  omega

/-- A sum of two decimal digits and a carry is a digit and a carry. -/
theorem exists_digit_carry {p q c : Nat} (hp : p < 10) (hq : q < 10) (hc : c ≤ 1) :
    ∃ r k, r < 10 ∧ k ≤ 1 ∧ p + q + c = r + 10 * k :=
  ⟨(p + q + c) % 10, (p + q + c) / 10, by omega, by omega, by omega⟩

/-- A difference of two decimal digits and a borrow is a digit and a borrow. -/
theorem exists_digit_borrow {p q b : Nat} (hp : p < 10) (hq : q < 10) (hb : b ≤ 1) :
    ∃ r k, r < 10 ∧ k ≤ 1 ∧ p + 10 * k = q + b + r :=
  ⟨(p + 10 - q - b) % 10, 1 - (p + 10 - q - b) / 10, by omega, by omega, by omega⟩

theorem adcDecLow_of_digits {a m : Byte} {c : Bool} {r k : Nat} (hr : r < 10) (hk : k = 0 ∨ k = 1)
    (h : a.toNat % 16 + m.toNat % 16 + c.toNat = r + 10 * k) : adcDecLow a m c = r + 16 * k := by
  simp only [adcDecLow, h]
  rcases hk with rfl | rfl <;> split <;> omega

theorem sbcDecLow_of_digits {a m : Byte} {c : Bool} {r k : Nat} (hr : r < 10) (hk : k = 0 ∨ k = 1)
    (h : a.toNat % 16 + c.toNat + 10 * k = m.toNat % 16 + 1 + r) : sbcDecLow a m c = r - 16 * k := by
  have h : ((a.toNat % 16 : Nat) - (m.toNat % 16 : Nat) + c.toNat - 1 : Int) = r - 10 * k := by omega
  simp only [sbcDecLow, h]
  rcases hk with rfl | rfl <;> split <;> omega

/-- The high digits with the low digit's carry `k`: the correction moves the carry from 160 to 256 (R101). -/
theorem adcDec_of_digits {a m : Byte} {c : Bool} {p q r k R j : Nat} (ha : a.toNat / 16 = p) (hm : m.toNat / 16 = q)
    (hr : r < 10) (hR : R < 10) (hj : j = 0 ∨ j = 1) (hlow : adcDecLow a m c = r + 16 * k)
    (hhigh : p + q + k = R + 10 * j) :
    (adcDec a m c).value = BitVec.ofNat 8 (16 * R + r + 256 * j) ∧ (adcDec a m c).c = decide (j = 1) := by
  have hs : a.toNat / 16 * 16 + m.toNat / 16 * 16 + adcDecLow a m c = 16 * R + r + 160 * j := by
    rw [ha, hm, hlow]
    omega
  simp only [adcDec, hs]
  rcases hj with rfl | rfl
  · rw [if_neg (by omega)]
    exact ⟨rfl, decide_eq_decide.mpr (by omega)⟩
  · rw [if_pos (by omega)]
    exact ⟨rfl, decide_eq_decide.mpr (by omega)⟩

/-- The same with the low digit's borrow: the correction moves the borrow from 160 to 256 (R103). -/
theorem sbcDec_value_of_digits {a m : Byte} {c : Bool} {p q r k R j : Nat} (ha : a.toNat / 16 = p)
    (hm : m.toNat / 16 = q) (hr : r < 10) (hR : R < 10) (hj : j = 0 ∨ j = 1) (hlow : sbcDecLow a m c = r - 16 * k)
    (hhigh : p + 10 * j = q + k + R) :
    ((sbcDec a m c).value.toNat : Int) = (16 * R + r - 256 * j) % 256 := by
  have hs : ((a.toNat / 16 * 16 : Nat) - (m.toNat / 16 * 16 : Nat) + sbcDecLow a m c : Int) = 16 * R + r - 160 * j := by
    rw [ha, hm, hlow]
    omega
  simp only [sbcDec, toNat_ofInt8, hs]
  rcases hj with rfl | rfl
  · rw [if_neg (by omega)]
    omega
  · rw [if_pos (by omega)]
    omega

theorem adcDec_bcd {x y : Nat} (hx : x < 100) (hy : y < 100) (c : Bool) :
    (adcDec (bcd x) (bcd y) c).value = bcd ((x + y + c.toNat) % 100) ∧
    (adcDec (bcd x) (bcd y) c).c = decide (100 ≤ x + y + c.toNat) := by
  obtain ⟨hxhi, hxlo⟩ := bcd_digits hx
  obtain ⟨hyhi, hylo⟩ := bcd_digits hy
  obtain ⟨r, k, hr, hk, hlow⟩ := exists_digit_carry (Nat.mod_lt x (by decide)) (Nat.mod_lt y (by decide)) c.toNat_le
  obtain ⟨R, j, hR, hj, hhigh⟩ := exists_digit_carry (p := x / 10) (q := y / 10) (by omega) (by omega) hk
  have hlo := adcDecLow_of_digits (a := bcd x) (m := bcd y) (c := c) hr (Nat.le_one_iff_eq_zero_or_eq_one.mp hk)
    (by rw [hxlo, hylo, hlow])
  obtain ⟨hvalue, hcarry⟩ := adcDec_of_digits hxhi hyhi hr hR (Nat.le_one_iff_eq_zero_or_eq_one.mp hj) hlo hhigh
  have hsum : x + y + c.toNat = 100 * j + (10 * R + r) := by omega
  rw [hvalue, hcarry, hsum, Nat.mul_add_mod, Nat.mod_eq_of_lt (by omega), decide_eq_decide]
  refine ⟨BitVec.eq_of_toNat_eq ?_, by omega⟩
  rw [toNat_bcd_of_digits hR hr, BitVec.toNat_ofNat]
  omega

theorem sbcDec_bcd {x y : Nat} (hx : x < 100) (hy : y < 100) (c : Bool) :
    (sbcDec (bcd x) (bcd y) c).value = bcd ((100 + x + c.toNat - y - 1) % 100) ∧
    (sbcDec (bcd x) (bcd y) c).c = decide (y + 1 ≤ x + c.toNat) := by
  obtain ⟨hxhi, hxlo⟩ := bcd_digits hx
  obtain ⟨hyhi, hylo⟩ := bcd_digits hy
  have hb : 1 - c.toNat ≤ 1 := Nat.sub_le 1 _
  obtain ⟨r, k, hr, hk, hlow⟩ := exists_digit_borrow (Nat.mod_lt x (by decide)) (Nat.mod_lt y (by decide)) hb
  obtain ⟨R, j, hR, hj, hhigh⟩ := exists_digit_borrow (p := x / 10) (q := y / 10) (by omega) (by omega) hk
  have hc := c.toNat_le
  have hlo := sbcDecLow_of_digits (a := bcd x) (m := bcd y) (c := c) hr (Nat.le_one_iff_eq_zero_or_eq_one.mp hk)
    (by rw [hxlo, hylo]; omega)
  have hvalue := sbcDec_value_of_digits hxhi hyhi hr hR (Nat.le_one_iff_eq_zero_or_eq_one.mp hj) hlo hhigh
  have hdiff : x + c.toNat + 100 * j = y + 1 + (10 * R + r) := by omega
  constructor
  · rw [show (100 + x + c.toNat - y - 1) % 100 = 10 * R + r by omega]
    apply BitVec.eq_of_toNat_eq
    rw [toNat_bcd_of_digits hR hr]
    omega
  · simp only [sbcDec, addBin, BitVec.toNat_not, toNat_bcd hx, toNat_bcd hy, decide_eq_decide]
    omega

/-- Settles O25: on all operands by the definitions, and on two-digit operands digit by digit with carry or borrow. -/
theorem decimalArithmeticIsDecimal : Obligations.DecimalArithmeticIsDecimal := by
  refine ⟨fun a m c => ?_, fun a m c => ⟨toNat_ofInt8 _, rfl⟩, fun x y c hx hy => ?_⟩
  · exact ⟨BitVec.toNat_ofNat .., rfl, testBit_seven _, adcDec_v .., Bool.beq_eq_decide_eq ..⟩
  · obtain ⟨hsum, hcarry⟩ := adcDec_bcd hx hy c
    obtain ⟨hdiff, hborrow⟩ := sbcDec_bcd hx hy c
    exact ⟨hsum, hcarry, hdiff, hborrow⟩

/-! ## BIT -/

/-- Settles O28: the two bits of the operand as ranges of its value. -/
theorem bitTestsMemory : Obligations.BitTestsMemory := by
  intro i s h hm
  have hbit6 (b : Byte) : b.getLsbD 6 = decide (64 ≤ b.toNat % 128) := by
    revert b
    decide
  have hx := exec_completes_plain (t := { s.advance i with
    z := s.a &&& operandValue i s == 0, n := (operandValue i s).getLsbD 7, v := (operandValue i s).getLsbD 6 })
    h hm rfl rfl rfl rfl
  rw [msb_eq_decide, hbit6, Bool.beq_eq_decide_eq] at hx
  exact hx

/-! ## Flag instructions and NOP -/

/-- Settles O37: each handler sets one flag in the advanced state; CLI and SEI delay polling (R206). -/
theorem flagInstructions : Obligations.FlagInstructions := fun s =>
  ⟨fun h => exec_completes_plain (t := { s.advance .clc with c := false }) h rfl rfl rfl rfl rfl,
    fun h => exec_completes_plain (t := { s.advance .sec with c := true }) h rfl rfl rfl rfl rfl,
    fun h => exec_completes (t := { s.advance .cli with i := false }) (e := 0) h rfl rfl,
    fun h => exec_completes (t := { s.advance .sei with i := true }) (e := 0) h rfl rfl,
    fun h => exec_completes_plain (t := { s.advance .cld with d := false }) h rfl rfl rfl rfl rfl,
    fun h => exec_completes_plain (t := { s.advance .sed with d := true }) h rfl rfl rfl rfl rfl,
    fun h => exec_completes_plain (t := { s.advance .clv with v := false }) h rfl rfl rfl rfl rfl⟩

/-- Settles O38: the handler leaves the advanced state as it is. -/
theorem nopsOnlyAdvance : Obligations.NopsOnlyAdvance := fun i s h hm =>
  exec_completes_plain (t := s.advance i) h hm rfl rfl rfl rfl

end Sys2Proof.Machine
end

section
/-! PROOFS. Halting, and the polling latch after an instruction (spec/41_dispatch.md R88; spec/48_undocumented.md R172;
spec/60_exceptions.md R206). -/

namespace Sys2Proof.Machine

/-- Settles O39: the halt test comes first; the refusal is one of those that `refusalsExactly` lists. -/
theorem haltBytesHalt : Obligations.HaltBytesHalt := by
  intro i s hwf
  refine ⟨fun hop => ?_, fun hm hop => ?_⟩
  · rw [exec_eq i hwf, runInstr_of_halt _ hop]
    rfl
  · obtain ⟨hrefused, -⟩ := refusalsExactly i s hwf
    have hdoc : i.desc.documented = false :=
      descriptor_documented_of_refuses i.opcode (List.mem_cons.mpr (.inl hm))
    exact (hrefused _).mpr ⟨hop, hdoc, .inl ⟨.inr hm, rfl⟩⟩

theorem exec_of_executes {i : Instr} {s : State} (h : Executes i s) : exec i s =
    (handlerOf i.mnemonic ⟨s.pc, i.opcode, operandSource i s, pageCrossed i s⟩ (s.advance i)).result i s := by
  obtain ⟨hwf, hop, hpol⟩ := h
  rw [exec_eq i hwf, runInstr_of_executes _ hop hpol]

theorem delaysIPoll_iff (m : Mnemonic) : delaysIPoll m = true ↔ m ∈ [Mnemonic.CLI, .SEI, .PLP] := by
  simp [delaysIPoll, or_assoc]

theorem complete_iPoll (i : Instr) (u : State) (iStart pcross : Bool) (e : Nat) :
    (u.complete i.desc iStart pcross e).iPoll = if i.mnemonic ∈ [Mnemonic.CLI, .SEI, .PLP] then iStart else u.i :=
  if_congr (delaysIPoll_iff i.mnemonic) rfl rfl

/-- Settles O50: completion writes the latch after every handler, and the entry and both resets set it. -/
theorem pollingLatch : Obligations.PollingLatch := by
  refine ⟨fun i s t h hex => ?_, interruptEntry_iPoll, fun _ _ => rfl, fun _ => rfl⟩
  rw [exec_of_executes h] at hex
  generalize handlerOf i.mnemonic _ _ = q at hex
  cases q with
  | refuse r => cases hex
  | ran u e =>
    cases hex
    exact complete_iPoll ..

end Sys2Proof.Machine
end

section
/-! PROOFS. The undocumented operations (spec/48_undocumented.md R174 to R193): the combined read-modify-write
operations, the combined loads and stores, the immediate ones, those with a fresh draw, and the unstable stores. -/

namespace Sys2Proof.Machine

/-! ## Combined read-modify-write -/

/-- What R174 to R177, R180 and R181 have in common: the handler stores `v` to its operand, which is a byte of memory,
and goes on with `g`, which leaves I and the counter alone. -/
theorem exec_storeThen {i : Instr} {s : State} {m : Mnemonic} {v : Byte} (g : State → State) (h : Executes i s)
    (hm : i.mnemonic = m) (hd : delaysIPoll m = false) (hstores : m ∈ storesOperand) (hshift : m ∉ accumulatorShifts)
    (hi : ∀ u, (g u).i = u.i) (hc : ∀ u, (g u).cycles = u.cycles)
    (hr : handlerOf m ⟨s.pc, i.opcode, operandSource i s, pageCrossed i s⟩ (s.advance i) =
      .ran (g ((s.advance i).store (operandSource i s) v)) 0) :
    exec i s = .next { g ((s.advance i).write (operandAddress i s) v) with
      iPoll := s.i, cycles := s.cycles + plainCost i s } := by
  have hx := exec_completes_plain h hm hd hr ((hi _).trans (State.store_i ..)) ((hc _).trans (State.store_cycles ..))
  rw [operandSource_eq_addr_of_stores h.1 (hm ▸ hstores) (hm ▸ hshift)] at hx
  exact hx

/-- The end of SLO, RLA and SRE: C, and A with N and Z from it. -/
def State.setLogic (a : Byte) (c : Bool) (s : State) : State := { s with a := a, c := c }.setNZ a

/-- What SLO, RLA and SRE have in common (R174 to R176): `q` is the shift or rotate of the operand, `g` its combination
with A. -/
theorem exec_logicRmw {i : Instr} {s : State} {m : Mnemonic} {q : ShiftResult} {r : Byte} {out : Bool} (g : Byte → Byte)
    (hq : q = ⟨r, out⟩) (h : Executes i s) (hm : i.mnemonic = m) (hd : delaysIPoll m = false)
    (hstores : m ∈ storesOperand) (hshift : m ∉ accumulatorShifts)
    (hr : handlerOf m ⟨s.pc, i.opcode, operandSource i s, pageCrossed i s⟩ (s.advance i) =
      .ran (State.setLogic (g q.value) q.out ((s.advance i).store (operandSource i s) q.value)) 0) :
    exec i s = .next { afterInstr i s with
      mem := s.mem.write (operandAddress i s).toNat r, a := g r, c := out, n := (g r).getLsbD 7, z := g r == 0 } := by
  subst hq
  exact exec_storeThen (State.setLogic (g r) out) h hm hd hstores hshift (fun _ => rfl) (fun _ => rfl) hr

/-- Settles O42: each handler is one store, and then a logic operation, an adder or a comparison. -/
theorem combinedReadModifyWrite : Obligations.CombinedReadModifyWrite := by
  intro i s h
  simp only [← add_one_eq_ofNat, ← sub_one_eq_ofNat]
  refine ⟨fun hm => ?slo, fun hm => ?rla, fun hm => ?sre, fun hm => ?rra, fun hm => ?dcp, fun hm => ?isc⟩
  case slo =>
    exact exec_logicRmw (s.a ||| ·) (shiftLeft_eq (operandValue i s) false) h hm rfl (by decide) (by decide) rfl
  case rla =>
    exact exec_logicRmw (s.a &&& ·) (shiftLeft_eq (operandValue i s) s.c) h hm rfl (by decide) (by decide) rfl
  case sre =>
    exact exec_logicRmw (s.a ^^^ ·) (shiftRight_eq (operandValue i s) false) h hm rfl (by decide) (by decide) rfl
  case rra =>
    have hx := exec_storeThen (v := (shiftRight (operandValue i s) s.c).value)
      (fun u => { u with c := (shiftRight (operandValue i s) s.c).out }.adcOp (shiftRight (operandValue i s) s.c).value)
      h hm rfl (by decide) (by decide) (fun _ => rfl) (fun _ => rfl) rfl
    rw [shiftRight_eq, State.adcOp_eq] at hx
    exact hx
  case dcp =>
    have hx := exec_storeThen (v := operandValue i s - 1) (fun u => u.compare s.a (operandValue i s - 1))
      h hm rfl (by decide) (by decide) (fun _ => rfl) (fun _ => rfl) rfl
    rw [State.compare_eq] at hx
    exact hx
  case isc =>
    have hx := exec_storeThen (v := operandValue i s + 1) (fun u => u.sbcOp (operandValue i s + 1))
      h hm rfl (by decide) (by decide) (fun _ => rfl) (fun _ => rfl) rfl
    rw [State.sbcOp_eq] at hx
    exact hx

/-! ## Combined loads and stores -/

/-- Settles O43: SAX is one store; LAX and LAS copy one byte to their registers, with N and Z from it. -/
theorem combinedLoadsAndStores : Obligations.CombinedLoadsAndStores := fun i s h =>
  ⟨fun hm => exec_store h hm rfl (by decide) (by decide) rfl,
    fun hm => exec_setNZ (u := { s.advance i with a := operandValue i s, x := operandValue i s }) h hm rfl rfl rfl rfl,
    fun hm => exec_setNZ (u := { s.advance i with
      a := operandValue i s &&& s.sp, x := operandValue i s &&& s.sp, sp := operandValue i s &&& s.sp })
      h hm rfl rfl rfl rfl⟩

/-! ## Immediate combined operations -/

theorem exec_refused_of_handler {i : Instr} {s : State} {q : Refusal} (h : Executes i s)
    (hq : HandlerRefuses i.mnemonic ⟨s.pc, i.opcode, operandSource i s, pageCrossed i s⟩ (s.advance i) q) :
    exec i s = .refused q := by
  obtain ⟨hwf, hop, hpol⟩ := h
  exact (exec_refused_iff hwf).mpr ⟨hop, .inr ⟨hpol, hq⟩⟩

/-- ARR in binary mode: the rotated byte, with C and V from its bits 6 and 5 (R184). -/
theorem handleArr_of_binary {r : Resolved} {s : State} {rotated : Byte} (hdec : s.decimal = false)
    (hrotated : (shiftRight (s.a &&& s.load r.src) s.c).value = rotated) : handleArr r s = .ran ({ s with
      a := rotated, c := rotated.getLsbD 6, v := rotated.getLsbD 6 != rotated.getLsbD 5 }.setNZ rotated) 0 := by
  subst hrotated
  simp only [handleArr, hdec]
  rfl

theorem half_getLsbD_seven (v : Byte) : (BitVec.ofNat 8 (v.toNat / 2)).getLsbD 7 = false := by
  revert v
  decide

theorem ror_getLsbD_seven (v : Byte) (c : Bool) :
    (BitVec.ofNat 8 (v.toNat / 2 + 128 * c.toNat)).getLsbD 7 = c := by
  revert v c
  decide

/-- Settles O44: each handler is one logic, shift, comparison or adder on A, and ARR asks for binary mode first. -/
theorem immediateCombined : Obligations.ImmediateCombined := by
  intro s op b v half r t dec diff
  refine ⟨fun h => ?anc, fun h => ?alr, fun h => ?arr, fun h => ?sbx, fun h => ?usbc⟩
  case anc =>
    exact exec_setNZ (u := { s.advance (.anc op b) with a := v, c := v.getLsbD 7 }) h (mnemonic_anc op h.1)
      rfl rfl rfl rfl
  case alr =>
    have hx := exec_setNZ (v := (shiftRight v false).value)
      (u := { s.advance (.alr b) with a := (shiftRight v false).value, c := (shiftRight v false).out })
      h (mnemonic_of_opcode 0x4B rfl rfl) rfl rfl rfl rfl
    have hn : (shiftRight v false).value.getLsbD 7 = false := by
      rw [shiftRight_eq]
      exact half_getLsbD_seven v
    rw [hn, shiftRight_eq] at hx
    exact hx
  case arr =>
    have hm : (Instr.arr b).mnemonic = .ARR := mnemonic_of_opcode 0x6B rfl rfl
    have hrotated : (shiftRight v s.c).value = r := by rw [shiftRight_eq]
    by_cases hdec : dec
    · rw [if_pos hdec]
      exact exec_refused_of_handler h (.decimal hm ((State.decimal_iff s).mpr hdec))
    · rw [if_neg hdec]
      have hbinary : s.decimal = false := Bool.eq_false_iff.mpr (mt (State.decimal_iff s).mp hdec)
      have hx := exec_setNZ (v := r)
        (u := { s.advance (.arr b) with a := r, c := r.getLsbD 6, v := r.getLsbD 6 != r.getLsbD 5 }) h hm rfl rfl rfl
        (handleArr_of_binary (r := ⟨s.pc, (Instr.arr b).opcode, .imm b, false⟩) (s := s.advance (.arr b)) hbinary
          hrotated)
      rw [show r.getLsbD 7 = s.c from ror_getLsbD_seven v s.c] at hx
      exact hx
  case sbx =>
    exact exec_completes_plain (t := { s.advance (.sbx b) with x := t - b }.compare t b)
      h (mnemonic_of_opcode 0xCB rfl rfl) rfl rfl rfl rfl
  case usbc =>
    have hx := exec_completes_plain (t := (s.advance (.usbc b)).sbcOp b) h (mnemonic_of_opcode 0xEB rfl rfl)
      rfl rfl rfl rfl
    rw [State.sbcOp_eq] at hx
    exact hx

/-! ## ANE and LXA -/

/-- Settles O45: each handler applies one draw and counts it; the draw's value is left as it is. -/
theorem magicOperations : Obligations.MagicOperations := by
  intro s b v t
  exact ⟨fun h => exec_setNZ (u := { s.advance (.ane b) with a := v, draws := s.draws + 1 })
      h (mnemonic_of_opcode 0x8B rfl rfl) rfl rfl rfl rfl,
    fun h => exec_setNZ (u := { s.advance (.lxa b) with a := t, x := t, draws := s.draws + 1 })
      h (mnemonic_of_opcode 0xAB rfl rfl) rfl rfl rfl rfl⟩

/-! ## Unstable stores -/

theorem unstableStore_of_same_page {index v : Byte} {r : Resolved} {s : State} {base : Word} (h : r.pcross = false)
    (haddr : r.src.address = base + zext16 index) :
    unstableStore index v r s = .ran (s.write (base + zext16 index) (v &&& (highByte base + 1))) 0 := by
  rw [unstableStore, h, haddr, add_sub_cancel_right]
  rfl

/-- What R189 to R192 have in common without a page cross; `u` is the state in which the handler stores. -/
theorem exec_unstableStore {i : Instr} {s u : State} {m : Mnemonic} {base : Word} {index v : Byte} (h : Executes i s)
    (hm : i.mnemonic = m) (hd : delaysIPoll m = false) (hcross : pageCrossed i s = false)
    (haddr : operandAddress i s = base + zext16 index) (hi : u.i = s.i) (hc : u.cycles = s.cycles)
    (hr : handlerOf m ⟨s.pc, i.opcode, operandSource i s, pageCrossed i s⟩ (s.advance i) =
      unstableStore index v ⟨s.pc, i.opcode, operandSource i s, pageCrossed i s⟩ u) :
    exec i s = .next { u with
      mem := u.mem.write (base + zext16 index).toNat (v &&& (highByte base + 1))
      iPoll := s.i, cycles := s.cycles + plainCost i s } :=
  exec_completes_plain h hm hd (hr.trans (unstableStore_of_same_page hcross haddr)) hi hc

/-- Settles O46: a page cross is refused by the handler, and else each handler is one store beside the base. -/
theorem unstableStores : Obligations.UnstableStores := by
  intro s a w at1
  refine ⟨fun i h hm hcross => exec_refused_of_handler h (.unstable hm hcross), fun h hcross => ?shaAbsY,
    fun h hcross => ?shaIndY, fun h hcross => ?shx, fun h hcross => ?shy, fun h hcross => ?tas⟩
  case shaAbsY =>
    exact exec_unstableStore (u := s.advance _) h (mnemonic_of_opcode 0x9F rfl rfl) rfl hcross rfl rfl rfl rfl
  case shaIndY =>
    exact exec_unstableStore (u := s.advance _) h (mnemonic_of_opcode 0x93 rfl rfl) rfl hcross rfl rfl rfl rfl
  case shx =>
    exact exec_unstableStore (u := s.advance _) h (mnemonic_of_opcode 0x9E rfl rfl) rfl hcross rfl rfl rfl rfl
  case shy =>
    exact exec_unstableStore (u := s.advance _) h (mnemonic_of_opcode 0x9C rfl rfl) rfl hcross rfl rfl rfl rfl
  case tas =>
    exact exec_unstableStore (u := { s.advance (.tas w) with sp := s.a &&& s.x }) h (mnemonic_of_opcode 0x9B rfl rfl)
      rfl hcross rfl rfl rfl rfl

end Sys2Proof.Machine
end

section
/-! PROOFS. Addressing modes and branch targets (spec/40_addressing.md R72 to R82; spec/20_memory.md R38): each address
as a number, and when indexing leaves its page. -/

namespace Sys2Proof.Machine

/-! ## Addresses as numbers -/

theorem toNat_word_add_byte (w : Word) (b : Byte) : (w + zext16 b).toNat = (w.toNat + b.toNat) % 65536 := by
  rw [BitVec.toNat_add, Laws.toNat_zext16]

theorem toNat_zext16_add (b c : Byte) : (zext16 (b + c)).toNat = (b.toNat + c.toNat) % 256 := by
  rw [Laws.toNat_zext16, BitVec.toNat_add]

/-- Two addresses are on different pages when their high bytes differ (R77, R85). -/
theorem crosses_eq (base ea : Word) : crosses base ea = decide (ea.toNat / 256 ≠ base.toNat / 256) := by
  rw [crosses, Bool.eq_iff_iff, bne_iff_ne, decide_eq_true_iff, ← Laws.toNat_highByte, ← Laws.toNat_highByte, ne_eq,
    ne_eq, BitVec.toNat_inj]

/-- Settles O9: each mode's address is one sum of a byte or word with an index, and a word's sum may cross a page. -/
theorem directModes : Obligations.DirectModes := fun s b w =>
  ⟨rfl, rfl, ⟨_, rfl, Laws.toNat_zext16 b⟩, rfl, ⟨_, rfl, toNat_zext16_add b s.x⟩, rfl,
    ⟨_, rfl, toNat_zext16_add b s.y⟩, rfl, rfl, rfl, ⟨_, rfl, toNat_word_add_byte w s.x, crosses_eq ..⟩,
    ⟨_, rfl, toNat_word_add_byte w s.y, crosses_eq ..⟩⟩

/-! ## Words read from memory -/

theorem word_add_one_eq (w : Word) : w + 1 = BitVec.ofNat 16 ((w.toNat + 1) % 65536) := by
  apply BitVec.eq_of_toNat_eq
  rw [BitVec.toNat_add, BitVec.toNat_ofNat]
  exact (Nat.mod_mod ..).symm

theorem zext16_eq_ofNat (b : Byte) : zext16 b = BitVec.ofNat 16 b.toNat :=
  (BitVec.ofNat_toNat 16 b).symm

theorem zext16_add_eq (b c : Byte) : zext16 (b + c) = BitVec.ofNat 16 ((b.toNat + c.toNat) % 256) := by
  rw [zext16_eq_ofNat, BitVec.toNat_add]

/-- The pointer's second byte is on the pointer's own page (R79). -/
theorem pointerHigh_eq (w : Word) : joinBytes (highByte w) (lowByte w + 1) =
    BitVec.ofNat 16 (w.toNat / 256 * 256 + (w.toNat + 1) % 256) := by
  apply BitVec.eq_of_toNat_eq
  have := w.isLt
  rw [Laws.toNat_joinBytes, Laws.toNat_highByte, BitVec.toNat_add, Laws.toNat_lowByte, BitVec.toNat_ofNat]
  show w.toNat / 256 * 256 + (w.toNat % 256 + 1) % 256 = _
  omega

theorem State.toNat_zeroPagePointer (s : State) (p : Byte) : (s.zeroPagePointer p).toNat =
    (s.read (BitVec.ofNat 16 ((p.toNat + 1) % 256))).toNat * 256 + (s.read (BitVec.ofNat 16 p.toNat)).toNat := by
  rw [State.zeroPagePointer, Laws.toNat_joinBytes, zext16_add_eq, zext16_eq_ofNat]
  rfl

/-- Settles O10: each word is joined from two bytes, the second at an address that wraps as the mode says. -/
theorem pointerModes : Obligations.PointerModes := by
  intro s b w
  refine ⟨?_, ⟨_, rfl, rfl, ?_⟩, ⟨_, rfl, rfl, ?_⟩, ⟨_, s.zeroPagePointer b, rfl, s.toNat_zeroPagePointer b,
    toNat_word_add_byte _ s.y, crosses_eq ..⟩⟩
  · rw [State.readWord, Laws.toNat_joinBytes, word_add_one_eq]
  · rw [State.jumpPointer, Laws.toNat_joinBytes, pointerHigh_eq]
  · rw [State.toNat_zeroPagePointer, BitVec.toNat_add, Nat.mod_add_mod]

theorem toNat_sext16 (o : Byte) : ((sext16 o).toNat : Int) = o.toInt % 65536 := by
  have hint : (sext16 o).toInt = o.toInt := BitVec.toInt_signExtend_of_le (by decide)
  have hlt := (sext16 o).isLt
  rw [← hint, BitVec.toInt_eq_toNat_cond]
  split <;> omega

/-- Settles O11: the sign extension keeps the offset's integer value, so the sum is the integer sum mod 2^16. -/
theorem branchTargets : Obligations.BranchTargets := by
  intro s o
  refine ⟨_, rfl, rfl, ?_⟩
  have ho := toNat_sext16 o
  rw [BitVec.toNat_add]
  push_cast
  omega

end Sys2Proof.Machine
end

section
/-! PROOFS. Bytes in a row: what reading and writing a run of bytes gives, and so the snapshot's pages and next
instruction, a stored instruction word, and the loader's image (spec/60_exceptions.md R216, R218; spec/41_dispatch.md
R112; spec/70_reset_and_hazards.md R225, R227). -/

namespace Sys2Proof.Machine

/-! ## Reading bytes in a row -/

theorem State.length_readBytes (s : State) (addr : Word) (n : Nat) : (s.readBytes addr n).length = n := by
  induction n generalizing addr with
  | zero => rfl
  | succ n ih => rw [State.readBytes, List.length_cons, ih]

theorem State.getElem?_readBytes (s : State) (addr : Word) {n k : Nat} (h : k < n) :
    (s.readBytes addr n)[k]? = some (s.read (BitVec.ofNat 16 (addr.toNat + k))) := by
  induction n generalizing addr k with
  | zero => omega
  | succ n ih =>
    cases k with
    | zero => simp [State.readBytes]
    | succ k =>
      rw [State.readBytes, List.getElem?_cons_succ, ih (addr + 1) (by omega)]
      congr 2
      apply BitVec.eq_of_toNat_eq
      have hone : (1 : Word).toNat = 1 := rfl
      simp only [BitVec.toNat_ofNat, BitVec.toNat_add, hone]
      omega

/-! ## Writing bytes in a row -/

theorem Memory.read_write_word {m : Memory} (hm : m.wf) (addr : Word) (v : Byte) (a : Word) :
    (m.write addr.toNat v).read a.toNat = if a = addr then v else m.read a.toNat := by
  simp only [Memory.read_write hm, BitVec.toNat_inj]

/-- Each byte of a run that does not lap itself is where it was written, and every other byte is as before. -/
theorem Memory.read_writeBytes {m : Memory} (hm : m.wf) {bs : List Byte} (hlen : bs.length ≤ 65536) (addr a : Word) :
    (m.writeBytes addr bs).read a.toNat = (bs[(a - addr).toNat]?).getD (m.read a.toNat) := by
  induction bs generalizing m addr with
  | nil => rfl
  | cons b bs ih =>
    rw [List.length_cons] at hlen
    rw [Memory.writeBytes, ih (Memory.wf_write hm addr.isLt b) (by omega), Memory.read_write_word hm]
    by_cases ha : a = addr
    · have hlast : (a - (addr + 1)).toNat = 65535 := by bv_omega
      rw [hlast, List.getElem?_eq_none (by omega), if_pos ha, ha, BitVec.sub_self]
      rfl
    · have hnext : (a - addr).toNat = (a - (addr + 1)).toNat + 1 := by bv_omega
      rw [hnext, List.getElem?_cons_succ, if_neg ha]

/-! ## The snapshot -/

theorem State.fetch_opcode (s : State) : s.fetch.opcode = s.read s.pc := by
  rw [State.fetch, instrOfBytes_eq_build, former_build_opcode]

theorem length_operand_bytes (o : Operand) : o.bytes.length = o.mode.operandLength := by
  cases o <;> rfl

theorem length_operandBytes (op b : Byte) (w : Word) :
    ((former op).operandBytes b w).length = (descriptor op).mode.operandLength := by
  rw [← former_build_operand, length_operand_bytes, former_build_mode]

theorem operandBytes_eq_readBytes (f : Former) (s : State) (addr : Word) :
    f.operandBytes (s.read addr) (joinBytes (s.read (addr + 1)) (s.read addr)) =
      s.readBytes addr (f.operandBytes (s.read addr) (joinBytes (s.read (addr + 1)) (s.read addr))).length := by
  cases f <;> simp [Former.operandBytes, State.readBytes]

theorem State.encode_fetch (s : State) :
    encode s.fetch = s.read s.pc :: s.readBytes (s.pc + 1) (descriptor (s.read s.pc)).mode.operandLength := by
  rw [State.fetch, instrOfBytes_eq_build, encode_former_build,
    ← length_operandBytes (s.read s.pc) (s.read (s.pc + 1)) (joinBytes (s.read (s.pc + 2)) (s.read (s.pc + 1)))]
  have h := operandBytes_eq_readBytes (former (s.read s.pc)) s (s.pc + 1)
  rw [show s.pc + 1 + 1 = s.pc + 2 from add_assoc s.pc 1 1] at h
  rw [← h]

/-- Settles O8: the fields by the definition, the pages byte by byte, the instruction by the decoder's two tables. -/
theorem snapshotShowsTheState : Obligations.SnapshotShowsTheState := by
  intro s w q
  refine ⟨rfl, rfl, rfl, rfl, rfl, rfl, rfl, s.toNat_statusByte s.b, ?window, ?pages, ?descriptor, s.encode_fetch.symm⟩
  case window => simp [q, State.snapshot, Function.comp_def]
  case pages =>
    intro page bytes hmem
    obtain ⟨p, -, hp⟩ := List.mem_map.mp hmem
    obtain ⟨rfl, rfl⟩ := Prod.mk.inj hp
    have hstart : (joinBytes p 0x00).toNat = p.toNat * 256 := by simp [Laws.toNat_joinBytes]
    exact ⟨s.length_readBytes _ 256, fun k hk => hstart ▸ s.getElem?_readBytes _ hk⟩
  case descriptor => exact congrArg descriptor s.fetch_opcode.symm

/-! ## A stored instruction word -/

theorem readBytes_withFetchWord {s : State} (h : s.mem.wf) (nbits w : Nat) :
    (s.withFetchWord nbits w).readBytes s.pc 3 = tableBytes nbits w := by
  have hread (a : Word) : (s.withFetchWord nbits w).read a =
      ((tableBytes nbits w)[(a - s.pc).toNat]?).getD (s.mem.read a.toNat) :=
    Memory.read_writeBytes (bs := tableBytes nbits w) h (show 3 ≤ 65536 by decide) s.pc a
  have h1 : s.pc + 1 - s.pc = 1 := add_sub_cancel_left s.pc 1
  have h2 : s.pc + 2 - s.pc = 2 := add_sub_cancel_left s.pc 2
  rw [State.readBytes_three, hread, hread, hread, BitVec.sub_self, h1, h2]
  rfl

/-- Settles O7: the three bytes at PC are the word's, so the step runs what the decoder reads from them. -/
theorem storedWordRunsNext : Obligations.StoredWordRunsNext := by
  intro s nbits w i hruns hs hdecode
  unfold decodeTableWord at hdecode
  split at hdecode
  next j rest hj =>
    cases hdecode
    rw [← readBytes_withFetchWord hs] at hj
    exact stepRunsDecodedInstruction (s.withFetchWord nbits w) i rest hruns hj
  · cases hdecode

/-! ## The loader -/

theorem Memory.read_writeWord {m : Memory} (hm : m.wf) (addr w a : Word) : (m.writeWord addr w).read a.toNat =
    if a = addr + 1 then highByte w else if a = addr then lowByte w else m.read a.toNat := by
  rw [Memory.writeWord, Memory.read_write_word (Memory.wf_write hm addr.isLt _), Memory.read_write_word hm]

/-- Settles O53: the program's bytes where they were written over zeros, and the reset vector over them. -/
theorem loaderImage : Obligations.LoaderImage := by
  intro p a hp k covered
  have hbytes : (Memory.writeBytes [] p.loadAddress p.bytes).read a.toNat = p.bytes.getD k 0 := by
    rw [Memory.read_writeBytes (by decide) hp, List.getD_eq_getElem?_getD]
    rfl
  have hcovered : (programCovers p resetVector && programCovers p (resetVector + 1)) = true ↔ covered :=
    Bool.and_eq_true_iff
  unfold programImage
  simp only [hcovered]
  split
  next hc => simp [hc, hbytes]
  next hc =>
    have hwf : (Memory.writeBytes [] p.loadAddress p.bytes).wf := Memory.wf_writeBytes (by decide) _ _
    have hlow : resetVector = 0xFFFC := rfl
    have hhigh : resetVector + 1 = 0xFFFD := rfl
    rw [Memory.read_writeWord hwf, hbytes, hhigh, hlow]
    simp only [hc, not_false_eq_true, true_and]
    by_cases ha : a = 0xFFFC
    · have hne : a ≠ 0xFFFD := ha ▸ by decide
      rw [if_neg hne, if_pos ha, if_pos ha]
    · rw [if_neg ha, if_neg ha]

end Sys2Proof.Machine
end

section
/-! PROOFS. The host's operations and the tables: the observed window, the inputs, the resets, and the decoder's tables
checked byte by byte. -/

namespace Sys2Proof.Machine

/-! ## The observed window -/

theorem Window.mem_addPage (w : Window) (p q : Byte) : q ∈ w.addPage p ↔ q = p ∨ q ∈ w := by
  induction w with
  | nil => simp [Window.addPage]
  | cons r w ih =>
    unfold Window.addPage
    split
    · exact List.mem_cons
    · split
      next hpr => simp [hpr]
      · simp [ih, or_left_comm]

theorem Window.addPage_addPage (w : Window) (p : Byte) : (w.addPage p).addPage p = w.addPage p := by
  induction w with
  | nil => simp [Window.addPage]
  | cons r w ih =>
    conv_rhs => unfold Window.addPage
    conv_lhs => arg 1; unfold Window.addPage
    split
    · simp [Window.addPage]
    next hlt =>
      split
      next hpr => simp [Window.addPage, hpr]
      next hpr => simp [Window.addPage, hlt, hpr, ih]

theorem Window.strictlyRising_addPage {w : Window} (p : Byte) (h : strictlyRising w) :
    strictlyRising (w.addPage p) := by
  induction w with
  | nil => exact List.pairwise_singleton _ _
  | cons r w ih =>
    obtain ⟨hr, hw⟩ := List.pairwise_cons.mp h
    unfold Window.addPage
    split
    next hlt =>
      refine List.pairwise_cons.mpr ⟨fun q hq => ?_, h⟩
      obtain rfl | hq := List.mem_cons.mp hq
      · exact hlt
      · exact hlt.trans (hr q hq)
    next hge =>
      split
      · exact h
      next hne =>
        have hgt : r.toNat < p.toNat :=
          Nat.lt_of_le_of_ne (Nat.le_of_not_lt hge) fun he => hne (BitVec.eq_of_toNat_eq he.symm)
        refine List.pairwise_cons.mpr ⟨fun q hq => ?_, ih hw⟩
        obtain rfl | hq := (Window.mem_addPage w p q).mp hq
        · exact hgt
        · exact hr q hq

/-! ## The inputs -/

theorem State.setIrq_of_driven {s : State} (h : s.params.interruptInputs = .driven) (level : Bool) :
    s.setIrq level = { s with irqIn := level } := if_pos h

theorem State.setNmi_of_driven {s : State} (h : s.params.interruptInputs = .driven) (level : Bool) :
    s.setNmi level = { s with nmiIn := level } := if_pos h

/-- Settles O60: the window by induction over its pages, the inputs through what the next boundary samples. -/
theorem hostOperations : Obligations.HostOperations := by
  refine ⟨fun w p q => ⟨w.mem_addPage p q, ?mem_remove, w.addPage_addPage p, ?remove_remove, fun h =>
      ⟨Window.strictlyRising_addPage p h, h.filter _⟩⟩,
    fun s a n => ⟨s.length_readBytes a n, fun k hk => s.getElem?_readBytes a hk⟩,
    fun s level hdriven => ⟨s.setIrq_of_driven hdriven level, s.setNmi_of_driven hdriven level, ?nmi, ?irq⟩,
    fun s level htied => ⟨if_neg (by simp [htied]), if_neg (by simp [htied])⟩⟩
  case mem_remove => simp [Window.removePage]
  case remove_remove => simp [Window.removePage, List.filter_filter]
  case nmi =>
    intro hprev
    rw [State.setNmi_of_driven hdriven]
    simp [State.pendingInterrupt, State.pollInputs, State.sampled, hdriven, hprev]
  case irq =>
    intro hpending hsame
    rw [State.setIrq_of_driven hdriven]
    simp [State.pendingInterrupt, State.pollInputs, State.sampled, hdriven, hpending, hsame]

/-! ## The tables -/

/-- Settles O4: the three columns are compared at each of the 256 bytes. -/
theorem cyclesAndFlagsOfTheTable : Obligations.CyclesAndFlagsOfTheTable := by
  refine ⟨?cycles, ?pageCross, ?documented, ?count⟩
  case cycles => decide
  case pageCross => decide
  case documented => decide
  case count => rfl

/-- Settles O5: each word is decoded. -/
theorem sampleWordsDecode : Obligations.SampleWordsDecode :=
  ⟨rfl, rfl, rfl, rfl, rfl, rfl, rfl, rfl, rfl⟩

/-! ## The resets -/

theorem State.reset_eq_powerOnReset : State.reset = powerOnReset Params.default Launch.zero := rfl

/-- Settles O51: both resets are the written-out states, and the default launch is canonical. -/
theorem powerOnReset_values : Obligations.PowerOnReset := by
  refine ⟨fun p l => ?fields, State.reset_eq_powerOnReset, by decide, by decide⟩
  case fields =>
    exact ⟨rfl, rfl, rfl, rfl, rfl, rfl, rfl, rfl, rfl, rfl, rfl, rfl, rfl, rfl, rfl, rfl, rfl, rfl, rfl⟩

/-- Settles O52: the warm reset is the state of R222, field by field. -/
theorem warmReset : Obligations.WarmReset := fun _ => rfl

end Sys2Proof.Machine
end
